-- ==== Sys2Proof/Word.lean ====
section
/-! DEFINITION. The word types of quad-oh CORE (R11, R12). Signed quantities (s16, s32) are held as bit vectors and read
through `BitVec.toInt`; bit 0 is the least significant bit. -/

namespace Sys2Proof

/-- u8 (R11). -/
abbrev Byte := BitVec 8

/-- u16 or s16 (R12); which of the two is said where the word is used. -/
abbrev Half := BitVec 16

/-- u32 or s32 (R12). -/
abbrev Word := BitVec 32

end Sys2Proof
end

