-- ==== Sys2Proof/Config.lean ====
section
/-! DEFINITION. What is fixed for a run (R8, R9, R21, R28, R29), what the environment may do or draw (R15, R31, R32, R236, R240,
R243, R247), and the free values. A free value is an opaque constant without a body: nothing can be proved about which value
it is, so a theorem that mentions it holds for every value. -/

namespace Sys2Proof

/-- FRAME_SIZE (R8). -/
abbrev frameSize : Nat := 164

/-- EXPECTED_LENGTH (R8). -/
abbrev expectedLength : Byte := 0x9E

/-- EXPECTED_VERSION (R8). -/
abbrev expectedVersion : Byte := 0x01

/-- EXPECTED_COMMAND (R8). -/
abbrev expectedCommand : Byte := 0x02

/-- NUM_CHANNELS (R8). -/
abbrev numChannels : Nat := 8

/-- CHANNEL_SIZE (R8). -/
abbrev channelSize : Nat := 19

/-- CHANNEL_BASE, also HEADER_SIZE (R8). -/
abbrev channelBase : Nat := 6

/-- TEMP_TABLE_ENTRIES (R8). -/
abbrev tempTableEntries : Nat := 130

/-- CRC_POLY (R8). -/
abbrev crcPoly : Half := 0x1021

/-- CRC_INIT (R8). -/
abbrev crcInit : Half := 0x0000

/-- CRC_FIRST (R10). -/
abbrev crcFirst : Nat := 1

/-- The three legal (CHECKSUM_OFFSET, CRC_LAST) pairs (R10): A = (162, 161), B = (158, 157), C = (162, 157). The refused pair
(158, 161) has no representation. DESIGN CHOICE: the pair is held as the layout's name (log 20; safe). -/
inductive Layout where
  | a
  | b
  | c
deriving DecidableEq, Repr, Inhabited

/-- One (raw_threshold, decoded_value) pair of TEMP_TABLE (R160): a threshold and a number of degrees. -/
structure TempEntry where
  threshold : Int
  value : Int
deriving DecidableEq, Repr, Inhabited

/-- TEMP_TABLE (R160), in table order: entry 0 first. -/
abbrev TempTable := List TempEntry

/-- The configuration (R20): the parameters of R9 and the two ROMs (R28, R29). No step writes it (R21, R301). -/
structure Config where
  /-- HEAD_MARKER (R9). -/
  headMarker : Byte
  /-- POLE_COUNT (R9, R21). -/
  poleCount : Half
  /-- (CHECKSUM_OFFSET, CRC_LAST) (R9, R10). -/
  layout : Layout
  /-- TEMP_TABLE (R9, R160). -/
  tempTable : TempTable
  /-- BS_CONFORMING (R9, R236). -/
  bsConforming : Bool
  /-- CRC_ROM, 256 entries of u16 (R28). -/
  crcRom : List Half
  /-- TEMP_ROM, 256 entries of s16 (R29). -/
  tempRom : List Half
deriving DecidableEq, Repr

/-- The operand of START (R32, R241). -/
inductive StartResult where
  | ok
  | fail
deriving DecidableEq, Repr, Inhabited

/-- The operation a TRANSPORT_FAILURE event names (R33): OPEN, AVAILABLE, READ or DISCARD. -/
inductive TransportOp where
  | opening
  | available
  | read
  | discard
deriving DecidableEq, Repr, Inhabited

/-- One draw of the byte source for one call of available, read or discard (R230, R236, R243). -/
inductive Answer where
  /-- The call succeeds. For a read with BS_CONFORMING = false, `count` bounds how many bytes it returns (R236); every other
  call ignores it. -/
  | serve (count : Nat)
  /-- The call returns FAIL, and PENDING is `left` afterwards: any value (R243). -/
  | fail (left : List Byte)
deriving DecidableEq, Repr, Inhabited

/-- One move of the environment: which agent acts next, and with what input (R7, R94, R247). -/
inductive Move where
  /-- The core takes its enabled step, if it has one (R244). -/
  | core
  /-- The Host presents START (R241). -/
  | start (r : StartResult)
  /-- The Host appends bytes to PENDING (R240). -/
  | arrive (bytes : List Byte)
  /-- The Host sets CANCEL_REQ (R31). -/
  | requestCancel
  /-- A StoreReader reads the store (R208). -/
  | storeRead
  /-- The Host asserts reset (R290). -/
  | reset
deriving DecidableEq, Repr, Inhabited

/-- HEAD_MARKER of the block that State.reset describes: OPEN in the spec (R9, D4), so a free value (log 6). -/
opaque Config.openHeadMarker : Byte

/-- The environment's move number `n`, once the schedule is empty: a free value (log 1). -/
opaque Config.freeMove : Nat → Move

/-- The byte source's draw number `n`, once the answers are used up: a free value (log 2). -/
opaque Config.freeAnswer : Nat → Answer

/-- What CRC_ROM gives at an index it has no entry for: no configuration of the spec has such an index (R28, R292), so a free value
(log 13). -/
opaque Config.missingCrcEntry : (idx : Byte) → Half

/-- What TEMP_ROM gives at a raw code it has no entry for: no configuration of the spec has such a code (R29, R292), so a free value
(log 13). -/
opaque Config.missingTempEntry : (raw : Byte) → Half

/-- The maximum of an empty TEMP_TABLE: no configuration of the spec has one (R166 W1, R292), so a free value (log 13). -/
opaque Config.emptyTableMax : Int

/-- The RPM at POLE_COUNT = 0: no configuration of the spec has it (R186, R292), so a free value (log 13). -/
opaque Config.rpmAtZeroPoles : (erpm : Half) → Word

/-- FRAME_BUF[offset] after reset number `epoch`, before a frame read: unspecified (R22, R36), a free value (log 5). -/
opaque Config.resetFrameByte : (epoch offset : Nat) → Byte

/-- CRC_ACC after reset number `epoch`: unspecified (R23, R36), a free value (log 4). -/
opaque Config.resetCrcAcc : (epoch : Nat) → Half

/-- CH_IDX after reset number `epoch`: unspecified (R24, R36), a free value (log 4). -/
opaque Config.resetChIdx : (epoch : Nat) → Fin 8

/-- STORE_VOLTAGE after reset number `epoch`: unspecified (R26, R36), a free value (log 4). -/
opaque Config.resetStoreVoltage : (epoch : Nat) → Half

/-- STORE_CURRENT after reset number `epoch`: unspecified (R26, R36), a free value (log 4). -/
opaque Config.resetStoreCurrent : (epoch : Nat) → Half

/-- STORE_TEMP after reset number `epoch`: unspecified (R26, R36), a free value (log 4). -/
opaque Config.resetStoreTemp : (epoch : Nat) → Word

end Sys2Proof
end

