-- ==== Sys2Proof/Syntax.lean ====
section
/-! DEFINITION. The operations of the block as instructions (R3): one constructor per row of spec/opcode_table.json, with the
operands the row's rule gives. Only TELEMETRY_FRAME has bits (R84); the other 39 are internal operations. -/

namespace Sys2Proof

/-- One 19-byte channel record, its fields in wire order (R86). CURR and PHCURR are s16; every other field is unsigned. -/
structure Channel where
  tag : Byte
  motorIdx : Half
  thrIn : Half
  thrOut : Half
  erpm : Half
  volt : Half
  curr : Half
  phCurr : Half
  tMos : Byte
  tCap : Byte
  status : Half
deriving DecidableEq, Repr, Inhabited

/-- The operands of a frame: everything of the 164 bytes but the four header bytes the opcode fixes (R81, R84). -/
structure Frame where
  /-- RESERVED, offsets 4..5 (R82, R91). -/
  reserved : Half
  ch0 : Channel
  ch1 : Channel
  ch2 : Channel
  ch3 : Channel
  ch4 : Channel
  ch5 : Channel
  ch6 : Channel
  ch7 : Channel
  /-- The four unassigned bytes in offset order (R10, R92). -/
  un0 : Byte
  un1 : Byte
  un2 : Byte
  un3 : Byte
  /-- CHECKSUM (R83). -/
  checksum : Half
deriving DecidableEq, Repr, Inhabited

/-- One operation of the block. -/
inductive Instr where
  /-- TELEMETRY_FRAME (R84, R132, R135): a frame with a legal header. -/
  | telemetryFrame (f : Frame)
  /-- CRC_STEP(acc, b) (R111). -/
  | crcStep (acc : Half) (b : Byte)
  /-- CRC_COMPUTE(B) (R112). -/
  | crcCompute (bytes : List Byte)
  /-- FRAME_CRC() (R113). -/
  | frameCrc
  /-- PARSE_HEADER() (R131). -/
  | parseHeader
  /-- HEADER_CHECK on HEAD, LENGTH, VERSION, COMMAND (R132). -/
  | headerCheck (head length version command : Byte)
  /-- PARSE_CHECKSUM() (R133). -/
  | parseChecksum
  /-- CHECKSUM_CHECK on RX_CRC (R134). -/
  | checksumCheck (rxCrc : Half)
  /-- VALIDATE_FRAME() (R135). -/
  | validateFrame
  /-- ACCEPT() (R136). -/
  | accept
  /-- TEMP_SCAN(raw) (R161). -/
  | tempScan (raw : Byte)
  /-- TEMP_DECODE(raw) (R163). -/
  | tempDecode (raw : Byte)
  /-- TEMP_MOS on TMOS (R164). -/
  | tempMos (tMos : Byte)
  /-- TEMP_CAP on TCAP (R165). -/
  | tempCap (tCap : Byte)
  /-- SCALE_CURRENT on CURR, s16 (R181). -/
  | scaleCurrent (curr : Half)
  /-- SCALE_PHASE_CURRENT on PHCURR, s16 (R182). -/
  | scalePhaseCurrent (phCurr : Half)
  /-- SCALE_VOLTAGE on VOLT, u16 (R183). -/
  | scaleVoltage (volt : Half)
  /-- SCALE_THROTTLE_IN on THR_IN, u16 (R184). -/
  | scaleThrottleIn (thrIn : Half)
  /-- SCALE_THROTTLE_OUT on THR_OUT, u16 (R185). -/
  | scaleThrottleOut (thrOut : Half)
  /-- SCALE_RPM on ERPM, u16 (R186). -/
  | scaleRpm (erpm : Half)
  /-- SCALE_TEMP_CENTI on MOS_T, s16 degrees (R188). -/
  | scaleTempCenti (mosT : Half)
  /-- PARSE_CHANNEL(k) (R200). -/
  | parseChannel (k : Fin 8)
  /-- GATE(F, RPM) (R201). -/
  | gate (f : Channel) (rpm : Word)
  /-- DECODE_CHANNEL(), a core step (R202). -/
  | decodeChannel
  /-- STORE_UPDATE(V, CUR, TC) (R203). -/
  | storeUpdate (v : Half) (cur : Half) (tc : Word)
  /-- REPORT(F, RPM, CUR, V, MOS, CAP, PH, TI, TO) for a slot (R204). -/
  | report (slot : Fin 8) (f : Channel) (rpm : Word) (cur v mos cap ph thIn thOut : Half)
  /-- STORE_READ() (R208). -/
  | storeRead
  /-- BS.available() (R231). -/
  | bsAvailable
  /-- POLL_CYCLE(), a core step (R232). -/
  | pollCycle
  /-- RESYNC(n) (R233). -/
  | resync (n : Nat)
  /-- WAIT(n) (R234). -/
  | wait (n : Nat)
  /-- FRAME_READ() (R235). -/
  | frameRead
  /-- BS.read(n) (R236). -/
  | bsRead (n : Nat)
  /-- SHORT_READ(k) (R237). -/
  | shortRead (k : Nat)
  /-- BS.discard() (R238). -/
  | bsDiscard
  /-- BS.close() (R239). -/
  | bsClose
  /-- ARRIVE(bytes) (R240). -/
  | arrive (bytes : List Byte)
  /-- START(r) (R241). -/
  | start (r : StartResult)
  /-- CANCEL(), a core step (R242). -/
  | cancel
  /-- ON_FAIL(op), the row TRANSPORT_FAILURE (R243). -/
  | transportFailure (op : TransportOp)
deriving DecidableEq, Repr

end Sys2Proof
end

