-- ==== Sys2Proof/WellFormed.lean ====
section
/-! DEFINITION. Which operand values the spec gives an operation. A frame's operands have no illegal value (R89, R91, R92), so only
the four operations whose rule bounds a count have a check. -/

namespace Sys2Proof

/-- The operand bounds of R233 (n > FRAME_SIZE), R234 (n < FRAME_SIZE), R236 (n = FRAME_SIZE: "the core never requests another
count") and R237 (k < FRAME_SIZE). -/
def Instr.wf : Instr → Bool
  | .telemetryFrame _ => true
  | .crcStep _ _ => true
  | .crcCompute _ => true
  | .frameCrc => true
  | .parseHeader => true
  | .headerCheck _ _ _ _ => true
  | .parseChecksum => true
  | .checksumCheck _ => true
  | .validateFrame => true
  | .accept => true
  | .tempScan _ => true
  | .tempDecode _ => true
  | .tempMos _ => true
  | .tempCap _ => true
  | .scaleCurrent _ => true
  | .scalePhaseCurrent _ => true
  | .scaleVoltage _ => true
  | .scaleThrottleIn _ => true
  | .scaleThrottleOut _ => true
  | .scaleRpm _ => true
  | .scaleTempCenti _ => true
  | .parseChannel _ => true
  | .gate _ _ => true
  | .decodeChannel => true
  | .storeUpdate _ _ _ => true
  | .report _ _ _ _ _ _ _ _ _ _ => true
  | .storeRead => true
  | .bsAvailable => true
  | .pollCycle => true
  | .resync n => decide (frameSize < n)
  | .wait n => decide (n < frameSize)
  | .frameRead => true
  | .bsRead n => decide (n = frameSize)
  | .shortRead k => decide (k < frameSize)
  | .bsDiscard => true
  | .bsClose => true
  | .arrive _ => true
  | .start _ => true
  | .cancel => true
  | .transportFailure _ => true

end Sys2Proof
end

