-- ==== Sys2Proof/Decode.lean ====
section
/-! DEFINITION. The frame decoder (R80–R87), total on any byte list and rejecting by name, and after it the encoder. The field
extraction is written once over a byte reader `rd` (offset to byte), so that the decoder and the machine's operations on FRAME_BUF
share it. The 39 internal operations have no encoding (30_encoding.md). -/

namespace Sys2Proof

/-- CHECKSUM_OFFSET (R9, R10). -/
def Layout.checksumOffset : Layout → Nat
  | .a => 162
  | .b => 158
  | .c => 162

/-- CRC_LAST (R9, R10). -/
def Layout.crcLast : Layout → Nat
  | .a => 161
  | .b => 157
  | .c => 157

/-- CRC_LEN (R10). -/
def Layout.crcLen (l : Layout) : Nat := l.crcLast - crcFirst + 1

/-- The offset of the first of the four unassigned bytes (R10). -/
def Layout.unassignedOffset : Layout → Nat
  | .a => 158
  | .b => 160
  | .c => 158

/-- A 16-bit value from its more and its less significant byte (R13). -/
def joinBytes (hi lo : Byte) : Half := hi ++ lo

/-- The more significant byte of a 16-bit value. -/
def hiByte (v : Half) : Byte := v.extractLsb' 8 8

/-- The less significant byte of a 16-bit value. -/
def loByte (v : Half) : Byte := v.extractLsb' 0 8

/-- be16 (R13): the first byte is the more significant. -/
def be16At (rd : Nat → Byte) (i : Nat) : Half := joinBytes (rd i) (rd (i + 1))

/-- le16 (R13): the first byte is the less significant. -/
def le16At (rd : Nat → Byte) (i : Nat) : Half := joinBytes (rd (i + 1)) (rd i)

/-- CB(k), the offset of record k (R85). -/
def channelOffset (k : Nat) : Nat := channelBase + channelSize * k

/-- The channel record at offset `b` (R86, R200). CURR and PHCURR keep their 16 bits; their sign is read by `BitVec.toInt`
(R87). -/
def channelAt (rd : Nat → Byte) (b : Nat) : Channel where
  tag := rd b
  motorIdx := be16At rd (b + 1)
  thrIn := be16At rd (b + 3)
  thrOut := be16At rd (b + 5)
  erpm := be16At rd (b + 7)
  volt := be16At rd (b + 9)
  curr := be16At rd (b + 11)
  phCurr := be16At rd (b + 13)
  tMos := rd (b + 15)
  tCap := rd (b + 16)
  status := be16At rd (b + 17)

/-- HW, the header word: bytes 0..3, big-endian (R84). -/
def headerWordAt (rd : Nat → Byte) : Word := rd 0 ++ rd 1 ++ rd 2 ++ rd 3

/-- The header match of R84, in its mask-and-match form. -/
def headerWordLegal (headMarker : Byte) (hw : Word) : Bool :=
  (hw &&& 0x00FFFFFF#32 == 0x009E0102#32) && (hw.extractLsb' 24 8 == headMarker)

/-- The operands of a frame in layout `lay` (R81, R83, R86). -/
def frameAt (lay : Layout) (rd : Nat → Byte) : Frame where
  reserved := be16At rd 4
  ch0 := channelAt rd (channelOffset 0)
  ch1 := channelAt rd (channelOffset 1)
  ch2 := channelAt rd (channelOffset 2)
  ch3 := channelAt rd (channelOffset 3)
  ch4 := channelAt rd (channelOffset 4)
  ch5 := channelAt rd (channelOffset 5)
  ch6 := channelAt rd (channelOffset 6)
  ch7 := channelAt rd (channelOffset 7)
  un0 := rd lay.unassignedOffset
  un1 := rd (lay.unassignedOffset + 1)
  un2 := rd (lay.unassignedOffset + 2)
  un3 := rd (lay.unassignedOffset + 3)
  checksum := le16At rd lay.checksumOffset

/-- Why bytes are no frame. -/
inductive DecodeError where
  /-- Not exactly FRAME_SIZE bytes (R80). -/
  | wrongLength (n : Nat)
  /-- A header word that fails R84 (R90): the four values read. -/
  | badHeader (head length version command : Byte)
deriving DecidableEq, Repr

/-- The byte at an offset of a byte list. Every offset the decoder forms is below FRAME_SIZE, and it has checked the length. -/
def byteOf (bytes : List Byte) (i : Nat) : Byte := bytes.getD i 0

/-- The frame decoder for a block with HEAD_MARKER `headMarker` and layout `lay` (R80, R84, R90). -/
def decode (headMarker : Byte) (lay : Layout) (bytes : List Byte) : Except DecodeError Instr :=
  if bytes.length = frameSize then
    if headerWordLegal headMarker (headerWordAt (byteOf bytes)) then
      .ok (.telemetryFrame (frameAt lay (byteOf bytes)))
    else
      .error (.badHeader (byteOf bytes 0) (byteOf bytes 1) (byteOf bytes 2) (byteOf bytes 3))
  else
    .error (.wrongLength bytes.length)

/-- The 19 bytes of a channel record (R86). -/
def encodeChannel (c : Channel) : List Byte :=
  [c.tag,
   hiByte c.motorIdx, loByte c.motorIdx,
   hiByte c.thrIn, loByte c.thrIn,
   hiByte c.thrOut, loByte c.thrOut,
   hiByte c.erpm, loByte c.erpm,
   hiByte c.volt, loByte c.volt,
   hiByte c.curr, loByte c.curr,
   hiByte c.phCurr, loByte c.phCurr,
   c.tMos, c.tCap,
   hiByte c.status, loByte c.status]

/-- The last six bytes, offsets 158..163, of a frame in layout `lay` (R81). -/
def encodeTail (lay : Layout) (f : Frame) : List Byte :=
  match lay with
  | .a => [f.un0, f.un1, f.un2, f.un3, loByte f.checksum, hiByte f.checksum]
  | .b => [loByte f.checksum, hiByte f.checksum, f.un0, f.un1, f.un2, f.un3]
  | .c => [f.un0, f.un1, f.un2, f.un3, loByte f.checksum, hiByte f.checksum]

/-- The 164 bytes of a frame, in offset order (R81). -/
def encodeFrame (headMarker : Byte) (lay : Layout) (f : Frame) : List Byte :=
  [headMarker, expectedLength, expectedVersion, expectedCommand, hiByte f.reserved, loByte f.reserved]
    ++ encodeChannel f.ch0 ++ encodeChannel f.ch1 ++ encodeChannel f.ch2 ++ encodeChannel f.ch3
    ++ encodeChannel f.ch4 ++ encodeChannel f.ch5 ++ encodeChannel f.ch6 ++ encodeChannel f.ch7
    ++ encodeTail lay f

/-- The bytes of an instruction: a frame has 164, an internal operation has no encoding (30_encoding.md). -/
def encode (headMarker : Byte) (lay : Layout) : Instr → Option (List Byte)
  | .telemetryFrame f => some (encodeFrame headMarker lay f)
  | .crcStep _ _ => none
  | .crcCompute _ => none
  | .frameCrc => none
  | .parseHeader => none
  | .headerCheck _ _ _ _ => none
  | .parseChecksum => none
  | .checksumCheck _ => none
  | .validateFrame => none
  | .accept => none
  | .tempScan _ => none
  | .tempDecode _ => none
  | .tempMos _ => none
  | .tempCap _ => none
  | .scaleCurrent _ => none
  | .scalePhaseCurrent _ => none
  | .scaleVoltage _ => none
  | .scaleThrottleIn _ => none
  | .scaleThrottleOut _ => none
  | .scaleRpm _ => none
  | .scaleTempCenti _ => none
  | .parseChannel _ => none
  | .gate _ _ => none
  | .decodeChannel => none
  | .storeUpdate _ _ _ => none
  | .report _ _ _ _ _ _ _ _ _ _ => none
  | .storeRead => none
  | .bsAvailable => none
  | .pollCycle => none
  | .resync _ => none
  | .wait _ => none
  | .frameRead => none
  | .bsRead _ => none
  | .shortRead _ => none
  | .bsDiscard => none
  | .bsClose => none
  | .arrive _ => none
  | .start _ => none
  | .cancel => none
  | .transportFailure _ => none

/-- The byte `w` holds at bit `lo`. -/
def byteAtBit (w lo : Nat) : Byte := BitVec.ofNat 8 (w / 2 ^ lo)

/-- The 164 frame bytes whose header word, the table's one 32-bit big-endian word, is bits 31..0 of `w`; the bytes after it are the
bits above, one byte at a time; a bit at or above `nbits` is 0. -/
def tableBytes (nbits w : Nat) : List Byte :=
  let v := w % 2 ^ nbits
  [byteAtBit v 24, byteAtBit v 16, byteAtBit v 8, byteAtBit v 0]
    ++ (List.range (frameSize - 4)).map (fun j => byteAtBit v (32 + 8 * j))

/-- HW[31:24] of a table word. The table leaves these bits to the parameter HEAD_MARKER (R84), so a word stands for the frame of the
block that is configured with them (log 7). -/
def tableHeadMarker (nbits w : Nat) : Byte := byteAtBit (w % 2 ^ nbits) 24

/-- The instruction the decoder reads from a word of spec/opcode_table.json, by the block whose HEAD_MARKER is the word's own
HW[31:24] and whose layout is the default A (log 7). -/
def decodeTableWord (nbits w : Nat) : Option Instr :=
  match decode (tableHeadMarker nbits w) .a (tableBytes nbits w) with
  | .ok i => some i
  | .error _ => none

end Sys2Proof
end

