-- ==== Sys2Proof/Machine/Roms.lean ====
section
/-! DEFINITION. The contents of the two ROMs (R28, R29, R110, R161, R162) and which configurations the spec accepts (R10, R166,
R292). -/

namespace Sys2Proof

/-- One step of the table's generator (R110): shift left, and exclusive-or the polynomial if bit 15 went out. -/
def crcShift (c : Half) : Half :=
  if c.msb then (c <<< 1) ^^^ crcPoly else c <<< 1

/-- `n` steps of the generator. -/
def crcShifts : Nat → Half → Half
  | 0, c => c
  | n + 1, c => crcShifts n (crcShift c)

/-- CRC_ROM[i] as R110 generates it. -/
def crcRomEntry (i : Byte) : Half := crcShifts 8 ((i.setWidth 16) <<< 8)

/-- CRC_ROM entries 0x00 on, as R110 lists them. -/
def crcRomQuarter0 : List Half :=
  [0x0000, 0x1021, 0x2042, 0x3063, 0x4084, 0x50A5, 0x60C6, 0x70E7,
   0x8108, 0x9129, 0xA14A, 0xB16B, 0xC18C, 0xD1AD, 0xE1CE, 0xF1EF,
   0x1231, 0x0210, 0x3273, 0x2252, 0x52B5, 0x4294, 0x72F7, 0x62D6,
   0x9339, 0x8318, 0xB37B, 0xA35A, 0xD3BD, 0xC39C, 0xF3FF, 0xE3DE,
   0x2462, 0x3443, 0x0420, 0x1401, 0x64E6, 0x74C7, 0x44A4, 0x5485,
   0xA56A, 0xB54B, 0x8528, 0x9509, 0xE5EE, 0xF5CF, 0xC5AC, 0xD58D,
   0x3653, 0x2672, 0x1611, 0x0630, 0x76D7, 0x66F6, 0x5695, 0x46B4,
   0xB75B, 0xA77A, 0x9719, 0x8738, 0xF7DF, 0xE7FE, 0xD79D, 0xC7BC]

/-- CRC_ROM entries 0x40 on, as R110 lists them. -/
def crcRomQuarter1 : List Half :=
  [0x48C4, 0x58E5, 0x6886, 0x78A7, 0x0840, 0x1861, 0x2802, 0x3823,
   0xC9CC, 0xD9ED, 0xE98E, 0xF9AF, 0x8948, 0x9969, 0xA90A, 0xB92B,
   0x5AF5, 0x4AD4, 0x7AB7, 0x6A96, 0x1A71, 0x0A50, 0x3A33, 0x2A12,
   0xDBFD, 0xCBDC, 0xFBBF, 0xEB9E, 0x9B79, 0x8B58, 0xBB3B, 0xAB1A,
   0x6CA6, 0x7C87, 0x4CE4, 0x5CC5, 0x2C22, 0x3C03, 0x0C60, 0x1C41,
   0xEDAE, 0xFD8F, 0xCDEC, 0xDDCD, 0xAD2A, 0xBD0B, 0x8D68, 0x9D49,
   0x7E97, 0x6EB6, 0x5ED5, 0x4EF4, 0x3E13, 0x2E32, 0x1E51, 0x0E70,
   0xFF9F, 0xEFBE, 0xDFDD, 0xCFFC, 0xBF1B, 0xAF3A, 0x9F59, 0x8F78]

/-- CRC_ROM entries 0x80 on, as R110 lists them. -/
def crcRomQuarter2 : List Half :=
  [0x9188, 0x81A9, 0xB1CA, 0xA1EB, 0xD10C, 0xC12D, 0xF14E, 0xE16F,
   0x1080, 0x00A1, 0x30C2, 0x20E3, 0x5004, 0x4025, 0x7046, 0x6067,
   0x83B9, 0x9398, 0xA3FB, 0xB3DA, 0xC33D, 0xD31C, 0xE37F, 0xF35E,
   0x02B1, 0x1290, 0x22F3, 0x32D2, 0x4235, 0x5214, 0x6277, 0x7256,
   0xB5EA, 0xA5CB, 0x95A8, 0x8589, 0xF56E, 0xE54F, 0xD52C, 0xC50D,
   0x34E2, 0x24C3, 0x14A0, 0x0481, 0x7466, 0x6447, 0x5424, 0x4405,
   0xA7DB, 0xB7FA, 0x8799, 0x97B8, 0xE75F, 0xF77E, 0xC71D, 0xD73C,
   0x26D3, 0x36F2, 0x0691, 0x16B0, 0x6657, 0x7676, 0x4615, 0x5634]

/-- CRC_ROM entries 0xC0 on, as R110 lists them. -/
def crcRomQuarter3 : List Half :=
  [0xD94C, 0xC96D, 0xF90E, 0xE92F, 0x99C8, 0x89E9, 0xB98A, 0xA9AB,
   0x5844, 0x4865, 0x7806, 0x6827, 0x18C0, 0x08E1, 0x3882, 0x28A3,
   0xCB7D, 0xDB5C, 0xEB3F, 0xFB1E, 0x8BF9, 0x9BD8, 0xABBB, 0xBB9A,
   0x4A75, 0x5A54, 0x6A37, 0x7A16, 0x0AF1, 0x1AD0, 0x2AB3, 0x3A92,
   0xFD2E, 0xED0F, 0xDD6C, 0xCD4D, 0xBDAA, 0xAD8B, 0x9DE8, 0x8DC9,
   0x7C26, 0x6C07, 0x5C64, 0x4C45, 0x3CA2, 0x2C83, 0x1CE0, 0x0CC1,
   0xEF1F, 0xFF3E, 0xCF5D, 0xDF7C, 0xAF9B, 0xBFBA, 0x8FD9, 0x9FF8,
   0x6E17, 0x7E36, 0x4E55, 0x5E74, 0x2E93, 0x3EB2, 0x0ED1, 0x1EF0]

/-- The 256 values of CRC_ROM (R28, R110). -/
def crcRomContents : List Half := crcRomQuarter0 ++ crcRomQuarter1 ++ crcRomQuarter2 ++ crcRomQuarter3

/-- max(v_0, ..., v_129) (R161). An empty table, which R166 W1 excludes, gives a free value (log 13). -/
def tempMax : TempTable → Int
  | [] => Config.emptyTableMax
  | e :: es => es.foldl (fun m x => max m x.value) e.value

/-- TEMP_SCAN(raw) (R161): the sentinel first, then the first entry with threshold ≤ raw, then the fallback ceiling. -/
def tempScan (t : TempTable) (raw : Byte) : Int :=
  if raw = 0 then 0
  else
    match t.find? (fun e => decide (e.threshold ≤ (raw.toNat : Int))) with
    | some e => e.value
    | none => tempMax t

/-- TEMP_ROM[r] = TEMP_SCAN(r) for r in 0..255, as s16 (R29, R162). -/
def tempRomContents (t : TempTable) : List Half :=
  (List.range 256).map (fun r => BitVec.ofInt 16 (tempScan t (BitVec.ofNat 8 r)))

/-- TempTableWF (R166): W1 to W10, in order, W5 and W6 together. -/
abbrev TempTable.Legal (t : TempTable) : Prop :=
  t.length = tempTableEntries
  ∧ t.Pairwise (fun e e' => e'.threshold < e.threshold)
  ∧ (t[129]?.any (fun e => decide (31 ≤ e.threshold))) = true
  ∧ (t[0]?.any (fun e => decide (e.threshold ≤ 255))) = true
  ∧ (∃ j ∈ List.range 129, t[j]? = some ⟨241, 0⟩ ∧ (t[j + 1]?.any (fun e => decide (e.value = 1))) = true)
  ∧ (∀ e ∈ t, e.threshold ≠ 235)
  ∧ tempMax t = 130
  ∧ t.Pairwise (fun e e' => e.value ≤ e'.value)
  ∧ (∀ e ∈ t, -327 ≤ e.value ∧ e.value ≤ 327)

/-- The configurations the spec has runs for (R292): POLE_COUNT in 1..65535, a table that meets R166, and both ROMs loaded. The
layout is legal by its type (R10). -/
abbrev Config.Legal (c : Config) : Prop :=
  1 ≤ c.poleCount.toNat
  ∧ TempTable.Legal c.tempTable
  ∧ c.crcRom = crcRomContents
  ∧ c.tempRom = tempRomContents c.tempTable

/-- The spec's invented example table (95_test_vectors.md V14). It is NOT the hardware's table; it only shows that R166 can be met,
so that `Config.openTempTable` has a type with a member. -/
def exampleTable : TempTable :=
  (List.range 14).map (fun j => ⟨255 - (j : Int), -14 + (j : Int)⟩)
    ++ [⟨241, 0⟩]
    ++ (List.range 5).map (fun j => ⟨240 - (j : Int), 1 + (j : Int)⟩)
    ++ (List.range 109).map (fun j => ⟨234 - (j : Int), 6 + (j : Int)⟩)
    ++ [⟨125, 130⟩]

set_option maxRecDepth 20000 in
/-- R166 can be met (95_test_vectors.md V14: the example table satisfies W1 to W10). -/
theorem exampleTable_legal : TempTable.Legal exampleTable := by decide +kernel

/-- A temperature table together with the proof that it meets R166. -/
structure CalibratedTable where
  table : TempTable := exampleTable
  legal : TempTable.Legal table := by exact exampleTable_legal
deriving Inhabited

/-- TEMP_TABLE of the block that State.reset describes: OPEN in the spec (R9, D5), so a free value: any table that meets R166, and
nothing else is known of it (log 6). -/
opaque Config.openTempTable : CalibratedTable

/-- The configuration of the block that State.reset describes (R9): HEAD_MARKER and TEMP_TABLE are free values; POLE_COUNT, the
layout and BS_CONFORMING have the spec's default (log 6). -/
def Config.configured : Config where
  headMarker := Config.openHeadMarker
  poleCount := 1
  layout := .a
  tempTable := Config.openTempTable.table
  bsConforming := true
  crcRom := crcRomContents
  tempRom := tempRomContents Config.openTempTable.table

end Sys2Proof
end

