-- ==== Sys2Proof/Machine/State.lean ====
section
/-! DEFINITION. The state of the block and of its environment as plain data (R20–R36), the two reasons to stop, and the state after
reset (R36, R290). -/

namespace Sys2Proof.Machine

/-- Memory: (offset, byte) pairs in one canonical form, see `Memory.wf`. It holds FRAME_BUF, the block's only byte-addressed space
(R50). -/
abbrev Memory := List Host.Cell

/-- What an unlisted offset reads as: no value, since nothing has written it (R22). DESIGN CHOICE (log 5; safe): the machine's own
read, `State.frameByte`, then supplies a free value. -/
def Memory.unlisted : Option Byte := none

/-- The offsets rise strictly. -/
def Memory.rising : Memory → Bool
  | [] => true
  | [_] => true
  | c :: d :: m => decide (c.1 < d.1) && Memory.rising (d :: m)

/-- The canonical form: offsets rise strictly, each is a FRAME_BUF offset (R50), and no entry equals what an unlisted offset reads
as (none does, since an entry holds a byte). -/
def Memory.wf (m : Memory) : Bool :=
  m.rising && m.all (fun c => decide (c.1 < frameSize)) && m.all (fun c => decide (some c.2 ≠ Memory.unlisted))

/-- PHASE (R24): what the core's next step does. -/
inductive Phase where
  /-- POLL: a poll cycle. -/
  | poll
  /-- DECODE: the channel record CH_IDX. -/
  | decode
deriving DecidableEq, Repr, Inhabited

/-- LIFECYCLE (R25). -/
inductive Lifecycle where
  /-- The byte source has not been reported open. -/
  | unopened
  /-- Poll cycles and channel steps run. -/
  | running
  /-- The cancel was taken and the byte source was released. Terminal. -/
  | stopped
  /-- A TransportFailure occurred. Terminal. -/
  | failed
deriving DecidableEq, Repr, Inhabited

/-- The Telemetry Store (R26): STORE_VALID, STORE_VOLTAGE (u16, 0.1 V), STORE_CURRENT (s16, 1/64 A), STORE_TEMP (s32, 0.01 degree). -/
structure Store where
  valid : Bool
  voltage : Half
  current : Half
  temp : Word
deriving DecidableEq, Repr

/-- The five header fields (R82, R131). -/
structure Header where
  head : Byte
  length : Byte
  version : Byte
  command : Byte
  reserved : Half
deriving DecidableEq, Repr

/-- The channel report record (R204): the six fields of the source's record, then the five `ext` fields. -/
structure ChannelReport where
  motorIndex : Half
  rpm : Word
  current : Half
  voltage : Half
  mosTemp : Half
  capTemp : Half
  extTag : Byte
  extThrIn : Half
  extThrOut : Half
  extPhaseCurrent : Half
  extStatus : Half
deriving DecidableEq, Repr

/-- The events of the report stream (R33). -/
inductive Event where
  /-- RESYNC(n): the available count that triggered the discard. -/
  | resync (n : Nat)
  /-- REJECT_HEADER(head, length, version, command). -/
  | rejectHeader (head length version command : Byte)
  /-- REJECT_CHECKSUM(received, computed). -/
  | rejectChecksum (received computed : Half)
  /-- REJECT_SHORT_READ(k). -/
  | rejectShortRead (k : Nat)
  /-- FRAME_ACCEPT. -/
  | frameAccept
  /-- STORE_UPDATE(voltage, current, temp). -/
  | storeUpdate (voltage current : Half) (temp : Word)
  /-- CHANNEL_REPORT(slot, record). -/
  | channelReport (slot : Fin 8) (record : ChannelReport)
  /-- TRANSPORT_FAILURE(op). -/
  | transportFailure (op : TransportOp)
  /-- STOPPED. -/
  | stopped
deriving DecidableEq, Repr

/-- What the last operation returned to its caller. The model's own observation (log 8), never read by a rule. -/
inductive Result where
  /-- Nothing has returned since reset. -/
  | none
  /-- It returned without a value. -/
  | done
  /-- It raised a rejection (R263). -/
  | rejected
  /-- A byte-source call returned FAIL (R243), or START reported one (R241). -/
  | failed
  /-- START outside UNOPENED (V21). -/
  | notAccepted
  /-- A u16. -/
  | u16 (v : Half)
  /-- An s16. -/
  | s16 (v : Half)
  /-- A u32. -/
  | u32 (v : Word)
  /-- An s32. -/
  | s32 (v : Word)
  /-- A number of degrees (R161). -/
  | degrees (v : Int)
  /-- A truth value (R201). -/
  | flag (b : Bool)
  /-- A count (R231). -/
  | count (n : Nat)
  /-- Bytes (R236). -/
  | bytes (bs : List Byte)
  /-- Header fields (R131). -/
  | header (h : Header)
  /-- Record fields (R200). -/
  | channel (c : Channel)
  /-- A report record (R204). -/
  | report (r : ChannelReport)
  /-- Sample(voltage, current, temp) (R208). -/
  | sample (voltage current : Half) (temp : Word)
  /-- NoSample (R208). -/
  | noSample
deriving DecidableEq, Repr

/-- The whole state (R20). The last six fields are the model's own. -/
structure State where
  /-- The configuration (R20, R21); no step writes it. -/
  cfg : Config
  /-- FRAME_BUF (R22). -/
  frameBuf : Memory
  /-- CRC_ACC (R23). -/
  crcAcc : Half
  /-- PHASE (R24). -/
  phase : Phase
  /-- CH_IDX (R24). -/
  chIdx : Fin 8
  /-- LIFECYCLE (R25). -/
  lifecycle : Lifecycle
  /-- The Telemetry Store (R26). -/
  store : Store
  /-- PENDING, oldest byte first (R30). -/
  pending : List Byte
  /-- SRC_OPEN (R30). -/
  srcOpen : Bool
  /-- CANCEL_REQ (R31). -/
  cancelReq : Bool
  /-- The report stream, in emission order (R33). -/
  reports : List Event
  /-- What the last operation returned (log 8). -/
  result : Result
  /-- The environment's coming moves, oldest first (log 1). -/
  schedule : List Move
  /-- The byte source's coming draws, oldest first (log 2). -/
  answers : List Answer
  /-- The number of resets since State.reset (log 4). -/
  epoch : Nat
  /-- The number of byte-source draws taken from the free value (log 2). -/
  drawCount : Nat
  /-- The number of moves taken from the free value (log 1). -/
  moveCount : Nat
deriving DecidableEq, Repr

/-- The reasons the machine stops. -/
inductive Fault where
  /-- Raised by the meanings of the three core steps, POLL_CYCLE, DECODE_CHANNEL and CANCEL, in a state where R244 does not enable
  them. Safe: the spec has no such step, and `step` never asks for one (log 11). -/
  | stepNotEnabled
deriving DecidableEq, Repr

/-- The reasons an instruction is refused. -/
inductive Refusal where
  /-- Raised by an arm of `exec` whose instruction has no meaning yet. Safe: the machine stops. -/
  | notModelled (mnemonic : String)
  /-- Raised by START in UNOPENED with a configuration that R292 refuses ("the model has no run for it"). Safe: the machine stops
  (log 13). -/
  | badConfiguration
deriving DecidableEq, Repr

/-- The state after reset number `epoch` of a block with configuration `c` (R36, R290). What R36 calls unspecified is a free value
(log 4, log 5). -/
def State.resetWith (c : Config) (epoch : Nat) : State where
  cfg := c
  frameBuf := []
  crcAcc := Config.resetCrcAcc epoch
  phase := .poll
  chIdx := Config.resetChIdx epoch
  lifecycle := .unopened
  store :=
    { valid := false
      voltage := Config.resetStoreVoltage epoch
      current := Config.resetStoreCurrent epoch
      temp := Config.resetStoreTemp epoch }
  pending := []
  srcOpen := false
  cancelReq := false
  reports := []
  result := .none
  schedule := []
  answers := []
  epoch := epoch
  drawCount := 0
  moveCount := 0

/-- The machine right after reset (R36, R290), of the block with the configuration of log 6. -/
def State.reset : State := State.resetWith Config.configured 0

end Sys2Proof.Machine
end

