-- ==== Sys2Proof/Machine/Ops.lean ====
section
/-! DEFINITION. The named operations over memory and state (R13, R14): FRAME_BUF accesses, the report stream, the rejection
mechanism (R263) and the transport failure (R243), the draws of the environment, and the Host's two moves that are no row of the
opcode table. -/

namespace Sys2Proof.Machine

/-- The byte at an offset; an unlisted offset reads as `Memory.unlisted`. -/
def Memory.read : Memory → Nat → Option Byte
  | [], _ => Memory.unlisted
  | (k, v) :: m, a => if a = k then some v else Memory.read m a

/-- Put one byte at its place in the rising order, replacing the entry at that offset. -/
def Memory.insert : Memory → Nat → Byte → Memory
  | [], a, b => [(a, b)]
  | (k, v) :: m, a, b =>
    if a < k then (a, b) :: (k, v) :: m
    else if a = k then (a, b) :: m
    else (k, v) :: Memory.insert m a b

/-- Write one byte. FRAME_BUF has offsets 0..163 (R50); no operation forms another, and a write there has nowhere to go (log 21). -/
def Memory.write (m : Memory) (a : Nat) (b : Byte) : Memory :=
  if a < frameSize then m.insert a b else m

/-- Write bytes at rising offsets from `a`. -/
def Memory.writeBytes (m : Memory) (a : Nat) : List Byte → Memory
  | [] => m
  | b :: bs => (Memory.writeBytes m (a + 1) bs).write a b

/-- FRAME_BUF[i]. A byte that no frame read has written is unspecified (R22, R36): a free value (log 5). -/
def State.frameByte (s : State) (i : Nat) : Byte :=
  (s.frameBuf.read i).getD (Config.resetFrameByte s.epoch i)

/-- MemRead(i, n) (R13). -/
def State.memRead (s : State) (i n : Nat) : List Byte :=
  (List.range n).map (fun j => s.frameByte (i + j))

/-- be16(i) (R13). -/
def State.be16 (s : State) (i : Nat) : Half := be16At s.frameByte i

/-- le16(i) (R13). -/
def State.le16 (s : State) (i : Nat) : Half := le16At s.frameByte i

/-- MemWrite(i, n, bytes) with n the number of bytes (R13). -/
def State.memWrite (s : State) (i : Nat) (bytes : List Byte) : State :=
  { s with frameBuf := s.frameBuf.writeBytes i bytes }

/-- Record what an operation returned (log 8). -/
def State.reply (s : State) (r : Result) : State := { s with result := r }

/-- emit E(args) (R14, R33). -/
def State.emit (s : State) (e : Event) : State := { s with reports := s.reports ++ [e] }

/-- Reject(reason) (R14, R263), the block's trap entry: the event of the reason is emitted, nothing else of the block changes, and
the poll cycle ends. Nothing is saved and no mode changes; there is no return operation (R269): the next enabled core step follows. -/
def State.reject (s : State) (e : Event) : State := (s.emit e).reply .rejected

/-- ON_FAIL(op) (R243, R266): LIFECYCLE <- FAILED and TRANSPORT_FAILURE(op). -/
def State.onFail (s : State) (op : TransportOp) : State :=
  ({ s with lifecycle := .failed }.emit (.transportFailure op)).reply .failed

/-- The byte source's next draw (R230): the oldest of `answers`, or a free value once they are used up (log 2). -/
def State.nextAnswer (s : State) : Answer × State :=
  match s.answers with
  | a :: as => (a, { s with answers := as })
  | [] => (Config.freeAnswer s.drawCount, { s with drawCount := s.drawCount + 1 })

/-- The environment's next move (R7, R247): the oldest of `schedule`, or a free value once it is empty (log 1). -/
def State.nextMove (s : State) : Move × State :=
  match s.schedule with
  | m :: ms => (m, { s with schedule := ms })
  | [] => (Config.freeMove s.moveCount, { s with moveCount := s.moveCount + 1 })

/-- The Host's move CANCEL_REQ <- 1 (R31, R247). -/
def State.requestCancel (s : State) : State := { s with cancelReq := true }

/-- The Host's reset (R290): every field as after reset; the configuration and the environment's own coming moves and draws stay
(log 15). -/
def State.hostReset (s : State) : State :=
  { State.resetWith s.cfg (s.epoch + 1) with
    schedule := s.schedule
    answers := s.answers
    drawCount := s.drawCount
    moveCount := s.moveCount }

end Sys2Proof.Machine
end

