-- ==== Sys2Proof/Machine/Operands.lean ====
section
/-! DEFINITION. The operand forms: fields of FRAME_BUF (R82, R83, R85–R87). -/

namespace Sys2Proof.Machine

/-- HEAD, LENGTH, VERSION, COMMAND and RESERVED of FRAME_BUF (R82). -/
def State.headerFields (s : State) : Header where
  head := s.frameByte 0
  length := s.frameByte 1
  version := s.frameByte 2
  command := s.frameByte 3
  reserved := s.be16 4

/-- RX_CRC (R83). -/
def State.checksumField (s : State) : Half := s.le16 s.cfg.layout.checksumOffset

/-- The fields of record `k` of FRAME_BUF (R85, R86). -/
def State.channelFields (s : State) (k : Fin 8) : Channel := channelAt s.frameByte (channelOffset k.val)

/-- The bytes the checksum covers: offsets 1..CRC_LAST (R10, R113). -/
def State.crcRange (s : State) : List Byte := s.memRead crcFirst s.cfg.layout.crcLen

end Sys2Proof.Machine
end

