-- ==== Sys2Proof/Machine/Flags.lean ====
section
/-! DEFINITION. Conditions. The block has no condition codes (R35): an operation's outcome is an event or a returned value. Here
stand the tests the rules make (R132, R201), the enabling of the core's steps (R202, R232, R242, R244), and the codes of the block's
small encodings (R24, R25, R33). The only status bit, STORE_VALID, is set by the store update (Telemetry.lean). -/

namespace Sys2Proof.Machine

/-- The test of HEADER_CHECK (R132): true if one of the four fields mismatches. -/
def headerMismatch (headMarker head length version command : Byte) : Bool :=
  head != headMarker || length != expectedLength || version != expectedVersion || command != expectedCommand

/-- GATE(F, RPM) (R201): VOLT, RPM and MOTOR_IDX compare unsigned, CURR compares signed. -/
def gateOpen (f : Channel) (rpm : Word) : Bool :=
  decide (0 < f.volt.toNat) || decide (0 < f.curr.toInt) || decide (0 < rpm.toNat) || decide (1 < f.motorIdx.toNat)

/-- POLL_CYCLE is enabled (R232). -/
def State.pollEnabled (s : State) : Bool :=
  decide (s.lifecycle = .running) && decide (s.phase = .poll) && !s.cancelReq

/-- DECODE_CHANNEL is enabled (R202). -/
def State.decodeEnabled (s : State) : Bool :=
  decide (s.lifecycle = .running) && decide (s.phase = .decode)

/-- CANCEL is enabled (R242). -/
def State.cancelEnabled (s : State) : Bool :=
  s.cancelReq && ((decide (s.lifecycle = .running) && decide (s.phase = .poll)) || decide (s.lifecycle = .unopened))

/-- The enabled core step (R244); at most one of the three conditions holds. -/
def State.enabledStep (s : State) : Option Instr :=
  if s.cancelEnabled then some .cancel
  else if s.pollEnabled then some .pollCycle
  else if s.decodeEnabled then some .decodeChannel
  else none

/-- What a step does once the environment's move is known. -/
inductive Selection where
  /-- An operation of the opcode table runs. -/
  | run (i : Instr)
  /-- The Host sets CANCEL_REQ (R31). -/
  | requestCancel
  /-- The Host asserts reset (R290). -/
  | reset
  /-- The core has the move and no core step is enabled: it waits for START, or the run has ended (R244, R246). -/
  | idle
deriving DecidableEq, Repr

/-- What a move selects in a state (R244, R247). -/
def State.selectFor (s : State) : Move → Selection
  | .core =>
    match s.enabledStep with
    | some i => .run i
    | none => .idle
  | .start r => .run (.start r)
  | .arrive bytes => .run (.arrive bytes)
  | .requestCancel => .requestCancel
  | .storeRead => .run .storeRead
  | .reset => .reset

/-- Take the environment's next move and what it selects. -/
def State.select (s : State) : Selection × State :=
  let m := s.nextMove
  (m.2.selectFor m.1, m.2)

/-- The code of PHASE (R24). -/
def Phase.code : Phase → Nat
  | .poll => 0
  | .decode => 1

/-- The value of LIFECYCLE (R25). -/
def Lifecycle.code : Lifecycle → Nat
  | .unopened => 0
  | .running => 1
  | .stopped => 2
  | .failed => 3

/-- The code of an event (R33). -/
def Event.code : Event → Nat
  | .resync _ => 1
  | .rejectHeader _ _ _ _ => 2
  | .rejectChecksum _ _ => 3
  | .rejectShortRead _ => 4
  | .frameAccept => 5
  | .storeUpdate _ _ _ => 6
  | .channelReport _ _ => 7
  | .transportFailure _ => 8
  | .stopped => 9

end Sys2Proof.Machine
end

