-- ==== Sys2Proof/Machine/Checksum.lean ====
section
/-! DEFINITION. The Checksum Engine (40_checksum.md): CRC_STEP, CRC_COMPUTE, FRAME_CRC. -/

namespace Sys2Proof.Machine

/-- CRC_STEP(acc, b) (R111) over a CRC_ROM. -/
def crcStep (rom : List Half) (acc : Half) (b : Byte) : Half :=
  let idx := ((acc >>> 8) ^^^ b.setWidth 16) &&& 0xFF#16
  ((acc <<< 8) ^^^ rom.getD idx.toNat (Config.missingCrcEntry (idx.setWidth 8))) &&& 0xFFFF#16

/-- The value CRC_COMPUTE(B) returns (R112): a left fold from CRC_INIT. -/
def crcOf (rom : List Half) (bytes : List Byte) : Half := bytes.foldl (crcStep rom) crcInit

/-- CRC_COMPUTE(B) (R112): CRC_ACC ends with the value it returns. -/
def crcCompute (bytes : List Byte) (s : State) : Half × State :=
  let v := crcOf s.cfg.crcRom bytes
  (v, { s with crcAcc := v })

/-- FRAME_CRC() (R113). -/
def frameCrc (s : State) : Half × State := crcCompute s.crcRange s

/-- CRC_STEP (R111): a pure function; only its value is returned. -/
def execCrcStep (acc : Half) (b : Byte) (s : State) : Host.Outcome State Fault Refusal :=
  .next (s.reply (.u16 (crcStep s.cfg.crcRom acc b)))

/-- CRC_COMPUTE (R112). -/
def execCrcCompute (bytes : List Byte) (s : State) : Host.Outcome State Fault Refusal :=
  let r := crcCompute bytes s
  .next (r.2.reply (.u16 r.1))

/-- FRAME_CRC (R113). -/
def execFrameCrc (s : State) : Host.Outcome State Fault Refusal :=
  let r := frameCrc s
  .next (r.2.reply (.u16 r.1))

end Sys2Proof.Machine
end

