-- ==== Sys2Proof/Machine/Validator.lean ====
section
/-! DEFINITION. The Frame Validator (41_frame_validator.md), and TELEMETRY_FRAME, the frame that comes to it. -/

namespace Sys2Proof.Machine

/-- The outcome of a check: it passes and the validator goes on, or it has raised a rejection and the poll cycle has ended. -/
inductive Check where
  | pass (s : State)
  | rejected (s : State)

/-- HEADER_CHECK() (R132, R262): REJECT_HEADER carries all four values. -/
def headerCheck (head length version command : Byte) (s : State) : Check :=
  if headerMismatch s.cfg.headMarker head length version command then
    .rejected (s.reject (.rejectHeader head length version command))
  else .pass s

/-- CHECKSUM_CHECK() (R134, R264). -/
def checksumCheck (rxCrc : Half) (s : State) : Check :=
  let r := frameCrc s
  if rxCrc ≠ r.1 then .rejected (r.2.reject (.rejectChecksum rxCrc r.1)) else .pass r.2

/-- ACCEPT() (R136). -/
def acceptFrame (s : State) : State :=
  { s.emit .frameAccept with phase := .decode, chIdx := 0 }.reply .done

/-- VALIDATE_FRAME() (R135): the fixed order; a failed check ends it. -/
def validateFrame (s : State) : State :=
  let h := s.headerFields
  match headerCheck h.head h.length h.version h.command s with
  | .rejected s1 => s1
  | .pass s1 =>
    match checksumCheck s1.checksumField s1 with
    | .rejected s2 => s2
    | .pass s2 => acceptFrame s2

/-- A check run on its own returns to its caller. -/
def Check.toOutcome : Check → Host.Outcome State Fault Refusal
  | .pass s => .next (s.reply .done)
  | .rejected s => .next s

/-- TELEMETRY_FRAME (R84, R132, R135): the frame's 164 bytes are in FRAME_BUF and are validated. Its header is legal by its encoding,
so the checksum decides. -/
def execTelemetryFrame (f : Frame) (s : State) : Host.Outcome State Fault Refusal :=
  .next (validateFrame (s.memWrite 0 (encodeFrame s.cfg.headMarker s.cfg.layout f)))

/-- PARSE_HEADER (R131). -/
def execParseHeader (s : State) : Host.Outcome State Fault Refusal :=
  .next (s.reply (.header s.headerFields))

/-- HEADER_CHECK (R132). -/
def execHeaderCheck (head length version command : Byte) (s : State) : Host.Outcome State Fault Refusal :=
  (headerCheck head length version command s).toOutcome

/-- PARSE_CHECKSUM (R133). -/
def execParseChecksum (s : State) : Host.Outcome State Fault Refusal :=
  .next (s.reply (.u16 s.checksumField))

/-- CHECKSUM_CHECK (R134). -/
def execChecksumCheck (rxCrc : Half) (s : State) : Host.Outcome State Fault Refusal :=
  (checksumCheck rxCrc s).toOutcome

/-- VALIDATE_FRAME (R135). -/
def execValidateFrame (s : State) : Host.Outcome State Fault Refusal := .next (validateFrame s)

/-- ACCEPT (R136). -/
def execAccept (s : State) : Host.Outcome State Fault Refusal := .next (acceptFrame s)

end Sys2Proof.Machine
end

