-- ==== Sys2Proof/Machine/Synchronizer.lean ====
section
/-! DEFINITION. The byte source, the poll cycle and the lifecycle (45_synchronizer.md). -/

namespace Sys2Proof.Machine

/-- What a byte-source call gives its caller: a value, or FAIL (R230). -/
inductive BsReply (α : Type) where
  | ok (a : α) (s : State)
  | failed (s : State)

/-- BS.available() (R231): |PENDING|. -/
def bsAvailable (s : State) : BsReply Nat :=
  match s.nextAnswer with
  | (.serve _, s1) => .ok s1.pending.length s1
  | (.fail left, s1) => .failed { s1 with pending := left }

/-- How many bytes a read of `n` returns (R236): all that is pending within the bound, or with BS_CONFORMING = false a drawn number
of them. -/
def readCount (conforming : Bool) (draw n pending : Nat) : Nat :=
  if conforming then min n pending else min draw (min n pending)

/-- BS.read(n) (R236): the oldest bytes leave PENDING. -/
def bsRead (n : Nat) (s : State) : BsReply (List Byte) :=
  match s.nextAnswer with
  | (.serve draw, s1) =>
    let k := readCount s1.cfg.bsConforming draw n s1.pending.length
    .ok (s1.pending.take k) { s1 with pending := s1.pending.drop k }
  | (.fail left, s1) => .failed { s1 with pending := left }

/-- BS.discard() (R238): PENDING <- []. -/
def bsDiscard (s : State) : BsReply Unit :=
  match s.nextAnswer with
  | (.serve _, s1) => .ok () { s1 with pending := [] }
  | (.fail left, s1) => .failed { s1 with pending := left }

/-- BS.close() (R239): SRC_OPEN <- 0; it cannot fail. -/
def bsClose (s : State) : State := { s with srcOpen := false }

/-- RESYNC(n) (R233). -/
def resync (n : Nat) (s : State) : State :=
  match bsDiscard s with
  | .failed s1 => s1.onFail .discard
  | .ok _ s1 => (s1.emit (.resync n)).reply .done

/-- WAIT(n) (R234, R261): no operation, no event. -/
def waitForBytes (_n : Nat) (s : State) : State := s.reply .done

/-- SHORT_READ (R237, R265): the bytes are gone, the event is emitted, the cycle ends. -/
def shortRead (k : Nat) (s : State) : State := s.reject (.rejectShortRead k)

/-- FRAME_READ() (R235). -/
def frameRead (s : State) : State :=
  match bsRead frameSize s with
  | .failed s1 => s1.onFail .read
  | .ok bytes s1 =>
    if bytes.length < frameSize then shortRead bytes.length s1
    else validateFrame (s1.memWrite 0 bytes)

/-- POLL_CYCLE() (R232, R267): exactly one of the three branches. -/
def pollCycle (s : State) : State :=
  match bsAvailable s with
  | .failed s1 => s1.onFail .available
  | .ok n s1 =>
    if frameSize < n then resync n s1
    else if n < frameSize then waitForBytes n s1
    else frameRead s1

/-- CANCEL() (R242, R270). -/
def cancelRun (s : State) : State :=
  let s1 := if s.lifecycle = .running then bsClose s else s
  ({ s1 with lifecycle := .stopped, cancelReq := false }.emit .stopped).reply .done

/-- START(r) in UNOPENED (R241). -/
def startRun (r : StartResult) (s : State) : State :=
  match r with
  | .ok => { s with lifecycle := .running, phase := .poll, srcOpen := true }.reply .done
  | .fail => { s with srcOpen := false }.onFail .opening

/-- BS_AVAILABLE (R231): the count, or the transport failure (R243). -/
def execBsAvailable (s : State) : Host.Outcome State Fault Refusal :=
  match bsAvailable s with
  | .ok n s1 => .next (s1.reply (.count n))
  | .failed s1 => .next (s1.onFail .available)

/-- POLL_CYCLE (R232), a core step: enabled in RUNNING, POLL and without a cancel request only (log 11). -/
def execPollCycle (s : State) : Host.Outcome State Fault Refusal :=
  if s.pollEnabled then .next (pollCycle s) else .fault .stepNotEnabled

/-- RESYNC (R233). -/
def execResync (n : Nat) (s : State) : Host.Outcome State Fault Refusal := .next (resync n s)

/-- WAIT (R234). -/
def execWait (n : Nat) (s : State) : Host.Outcome State Fault Refusal := .next (waitForBytes n s)

/-- FRAME_READ (R235). -/
def execFrameRead (s : State) : Host.Outcome State Fault Refusal := .next (frameRead s)

/-- BS_READ (R236): the bytes, or the transport failure (R243). -/
def execBsRead (n : Nat) (s : State) : Host.Outcome State Fault Refusal :=
  match bsRead n s with
  | .ok bytes s1 => .next (s1.reply (.bytes bytes))
  | .failed s1 => .next (s1.onFail .read)

/-- SHORT_READ (R237). -/
def execShortRead (k : Nat) (s : State) : Host.Outcome State Fault Refusal := .next (shortRead k s)

/-- BS_DISCARD (R238): PENDING is emptied, or the transport failure (R243). -/
def execBsDiscard (s : State) : Host.Outcome State Fault Refusal :=
  match bsDiscard s with
  | .ok _ s1 => .next (s1.reply .done)
  | .failed s1 => .next (s1.onFail .discard)

/-- BS_CLOSE (R239). -/
def execBsClose (s : State) : Host.Outcome State Fault Refusal := .next ((bsClose s).reply .done)

/-- ARRIVE(bytes) (R240): enabled at any time, any bytes. -/
def execArrive (bytes : List Byte) (s : State) : Host.Outcome State Fault Refusal :=
  .next ({ s with pending := s.pending ++ bytes }.reply .done)

/-- START(r) (R241): accepted in UNOPENED only; elsewhere it has no effect (V21, log 12). A configuration that R292 refuses has no run
(log 13). -/
def execStart (r : StartResult) (s : State) : Host.Outcome State Fault Refusal :=
  if s.lifecycle = .unopened then
    if s.cfg.Legal then .next (startRun r s) else .refused .badConfiguration
  else .next (s.reply .notAccepted)

/-- CANCEL (R242), a core step (log 11). -/
def execCancel (s : State) : Host.Outcome State Fault Refusal :=
  if s.cancelEnabled then .next (cancelRun s) else .fault .stepNotEnabled

/-- TRANSPORT_FAILURE (R243): ON_FAIL(op). -/
def execTransportFailure (op : TransportOp) (s : State) : Host.Outcome State Fault Refusal := .next (s.onFail op)

end Sys2Proof.Machine
end

