-- ==== Sys2Proof/Machine/Scalers.lean ====
section
/-! DEFINITION. The Field Scalers (43_field_scalers.md): integer codes, and the exact rational value each code denotes (R180). -/

namespace Sys2Proof.Machine

/-- SCALE_CURRENT(CURR) and SCALE_PHASE_CURRENT(PHCURR) (R181, R182): the s16 code unchanged. -/
def scaleCurrent (curr : Half) : Half := curr

/-- SCALE_VOLTAGE(VOLT) (R183): the u16 code unchanged. -/
def scaleVoltage (volt : Half) : Half := volt

/-- SCALE_THROTTLE_IN and SCALE_THROTTLE_OUT (R184, R185): the u16 code unchanged, not clamped. -/
def scaleThrottle (thr : Half) : Half := thr

/-- SCALE_RPM(ERPM) (R186): (ERPM * 10) div POLE_COUNT, u32. POLE_COUNT = 0 is refused as a configuration; the value there is free
(log 13). -/
def scaleRpm (c : Config) (erpm : Half) : Word :=
  if c.poleCount = 0 then Config.rpmAtZeroPoles erpm else (erpm.setWidth 32 * 10#32) / c.poleCount.setWidth 32

/-- SCALE_TEMP_CENTI(MOS_T) (R188): sext_32(MOS_T) * 100, s32. -/
def scaleTempCenti (mosT : Half) : Word := mosT.signExtend 32 * 100#32

/-- Amperes denoted by a current code (R180): code / 64. -/
def denotedCurrent (code : Half) : Rat := (code.toInt : Rat) / 64

/-- Volts denoted by a voltage code (R180): code / 10. -/
def denotedVoltage (code : Half) : Rat := (code.toNat : Rat) / 10

/-- The ratio denoted by a throttle code (R180): code / 32768. -/
def denotedThrottle (code : Half) : Rat := (code.toNat : Rat) / 32768

/-- RPM denoted by an RPM code (R180): the code. -/
def denotedRpm (code : Word) : Rat := (code.toNat : Rat)

/-- Degrees denoted by a stored temperature (R180): code / 100. -/
def denotedTemp (code : Word) : Rat := (code.toInt : Rat) / 100

/-- SCALE_CURRENT (R181). -/
def execScaleCurrent (curr : Half) (s : State) : Host.Outcome State Fault Refusal :=
  .next (s.reply (.s16 (scaleCurrent curr)))

/-- SCALE_PHASE_CURRENT (R182). -/
def execScalePhaseCurrent (phCurr : Half) (s : State) : Host.Outcome State Fault Refusal :=
  .next (s.reply (.s16 (scaleCurrent phCurr)))

/-- SCALE_VOLTAGE (R183). -/
def execScaleVoltage (volt : Half) (s : State) : Host.Outcome State Fault Refusal :=
  .next (s.reply (.u16 (scaleVoltage volt)))

/-- SCALE_THROTTLE_IN (R184). -/
def execScaleThrottleIn (thrIn : Half) (s : State) : Host.Outcome State Fault Refusal :=
  .next (s.reply (.u16 (scaleThrottle thrIn)))

/-- SCALE_THROTTLE_OUT (R185). -/
def execScaleThrottleOut (thrOut : Half) (s : State) : Host.Outcome State Fault Refusal :=
  .next (s.reply (.u16 (scaleThrottle thrOut)))

/-- SCALE_RPM (R186). -/
def execScaleRpm (erpm : Half) (s : State) : Host.Outcome State Fault Refusal :=
  .next (s.reply (.u32 (scaleRpm s.cfg erpm)))

/-- SCALE_TEMP_CENTI (R188). -/
def execScaleTempCenti (mosT : Half) (s : State) : Host.Outcome State Fault Refusal :=
  .next (s.reply (.s32 (scaleTempCenti mosT)))

end Sys2Proof.Machine
end

