-- ==== Sys2Proof/Machine/Temperature.lean ====
section
/-! DEFINITION. The Temperature Decoder (42_temperature.md). TEMP_SCAN and the ROM's contents stand in Roms.lean. -/

namespace Sys2Proof.Machine

/-- TEMP_DECODE(raw) = TEMP_ROM[raw] (R163), s16 degrees. -/
def tempDecode (c : Config) (raw : Byte) : Half := c.tempRom.getD raw.toNat (Config.missingTempEntry raw)

/-- TEMP_SCAN (R161). -/
def execTempScan (raw : Byte) (s : State) : Host.Outcome State Fault Refusal :=
  .next (s.reply (.degrees (tempScan s.cfg.tempTable raw)))

/-- TEMP_DECODE (R163). -/
def execTempDecode (raw : Byte) (s : State) : Host.Outcome State Fault Refusal :=
  .next (s.reply (.s16 (tempDecode s.cfg raw)))

/-- TEMP_MOS (R164). -/
def execTempMos (tMos : Byte) (s : State) : Host.Outcome State Fault Refusal :=
  .next (s.reply (.s16 (tempDecode s.cfg tMos)))

/-- TEMP_CAP (R165). -/
def execTempCap (tCap : Byte) (s : State) : Host.Outcome State Fault Refusal :=
  .next (s.reply (.s16 (tempDecode s.cfg tCap)))

end Sys2Proof.Machine
end

