-- ==== Sys2Proof/Machine/Telemetry.lean ====
section
/-! DEFINITION. The Telemetry Decoder and the Telemetry Store (44_telemetry_decoder.md). -/

namespace Sys2Proof.Machine

/-- STORE_UPDATE(V, CUR, TC) (R203): the triple and STORE_VALID in one step (R57), then the event. -/
def storeUpdate (v cur : Half) (tc : Word) (s : State) : State :=
  { s with store := { valid := true, voltage := v, current := cur, temp := tc } }.emit (.storeUpdate v cur tc)

/-- The record REPORT(F, RPM, CUR, V, MOS, CAP, PH, TI, TO) (R204). -/
def channelReport (f : Channel) (rpm : Word) (cur v mos cap ph thIn thOut : Half) : ChannelReport where
  motorIndex := f.motorIdx
  rpm := rpm
  current := cur
  voltage := v
  mosTemp := mos
  capTemp := cap
  extTag := f.tag
  extThrIn := thIn
  extThrOut := thOut
  extPhaseCurrent := ph
  extStatus := f.status

/-- The store update and the report of a slot whose gate is open (R202). -/
def publish (k : Fin 8) (f : Channel) (rpm : Word) (s : State) : State :=
  let cur := scaleCurrent f.curr
  let ph := scaleCurrent f.phCurr
  let v := scaleVoltage f.volt
  let thIn := scaleThrottle f.thrIn
  let thOut := scaleThrottle f.thrOut
  let mos := tempDecode s.cfg f.tMos
  let cap := tempDecode s.cfg f.tCap
  (storeUpdate v cur (scaleTempCenti mos) s).emit
    (.channelReport k (channelReport f rpm cur v mos cap ph thIn thOut))

/-- The end of a channel step (R202, R205): after slot 7 PHASE <- POLL and CH_IDX stays, else the next slot. -/
def advanceChannel (s : State) : State :=
  if s.chIdx = 7 then { s with phase := .poll } else { s with chIdx := s.chIdx + 1 }

/-- DECODE_CHANNEL() (R202); a closed gate stores and emits nothing (R206). -/
def decodeChannel (s : State) : State :=
  let k := s.chIdx
  let f := s.channelFields k
  let rpm := scaleRpm s.cfg f.erpm
  let s1 := if gateOpen f rpm then publish k f rpm s else s
  (advanceChannel s1).reply .done

/-- What a StoreReader gets (R208). -/
def storeRead (s : State) : Result :=
  if s.store.valid then .sample s.store.voltage s.store.current s.store.temp else .noSample

/-- PARSE_CHANNEL (R200). -/
def execParseChannel (k : Fin 8) (s : State) : Host.Outcome State Fault Refusal :=
  .next (s.reply (.channel (s.channelFields k)))

/-- GATE (R201). -/
def execGate (f : Channel) (rpm : Word) (s : State) : Host.Outcome State Fault Refusal :=
  .next (s.reply (.flag (gateOpen f rpm)))

/-- DECODE_CHANNEL (R202), a core step: enabled in RUNNING and DECODE only (log 11). -/
def execDecodeChannel (s : State) : Host.Outcome State Fault Refusal :=
  if s.decodeEnabled then .next (decodeChannel s) else .fault .stepNotEnabled

/-- STORE_UPDATE (R203). -/
def execStoreUpdate (v cur : Half) (tc : Word) (s : State) : Host.Outcome State Fault Refusal :=
  .next ((storeUpdate v cur tc s).reply .done)

/-- REPORT (R204): the record is built, and emitted as CHANNEL_REPORT(slot, record) (log 10). -/
def execReport (slot : Fin 8) (f : Channel) (rpm : Word) (cur v mos cap ph thIn thOut : Half) (s : State) :
    Host.Outcome State Fault Refusal :=
  let r := channelReport f rpm cur v mos cap ph thIn thOut
  .next ((s.emit (.channelReport slot r)).reply (.report r))

/-- STORE_READ (R208): enabled at any time, no side effect. -/
def execStoreRead (s : State) : Host.Outcome State Fault Refusal := .next (s.reply (storeRead s))

end Sys2Proof.Machine
end

