-- ==== Sys2Proof/Machine/Dispatch.lean ====
section
/-! DEFINITION. The dispatch: one arm per row of spec/opcode_table.json, in the table's order. -/

namespace Sys2Proof.Machine

def exec (i : Instr) (s : State) : Host.Outcome State Fault Refusal :=
  match i with
  | .telemetryFrame f => Sys2Proof.Machine.execTelemetryFrame f s
  | .crcStep acc b => Sys2Proof.Machine.execCrcStep acc b s
  | .crcCompute bytes => Sys2Proof.Machine.execCrcCompute bytes s
  | .frameCrc => Sys2Proof.Machine.execFrameCrc s
  | .parseHeader => Sys2Proof.Machine.execParseHeader s
  | .headerCheck head length version command => Sys2Proof.Machine.execHeaderCheck head length version command s
  | .parseChecksum => Sys2Proof.Machine.execParseChecksum s
  | .checksumCheck rxCrc => Sys2Proof.Machine.execChecksumCheck rxCrc s
  | .validateFrame => Sys2Proof.Machine.execValidateFrame s
  | .accept => Sys2Proof.Machine.execAccept s
  | .tempScan raw => Sys2Proof.Machine.execTempScan raw s
  | .tempDecode raw => Sys2Proof.Machine.execTempDecode raw s
  | .tempMos tMos => Sys2Proof.Machine.execTempMos tMos s
  | .tempCap tCap => Sys2Proof.Machine.execTempCap tCap s
  | .scaleCurrent curr => Sys2Proof.Machine.execScaleCurrent curr s
  | .scalePhaseCurrent phCurr => Sys2Proof.Machine.execScalePhaseCurrent phCurr s
  | .scaleVoltage volt => Sys2Proof.Machine.execScaleVoltage volt s
  | .scaleThrottleIn thrIn => Sys2Proof.Machine.execScaleThrottleIn thrIn s
  | .scaleThrottleOut thrOut => Sys2Proof.Machine.execScaleThrottleOut thrOut s
  | .scaleRpm erpm => Sys2Proof.Machine.execScaleRpm erpm s
  | .scaleTempCenti mosT => Sys2Proof.Machine.execScaleTempCenti mosT s
  | .parseChannel k => Sys2Proof.Machine.execParseChannel k s
  | .gate f rpm => Sys2Proof.Machine.execGate f rpm s
  | .decodeChannel => Sys2Proof.Machine.execDecodeChannel s
  | .storeUpdate v cur tc => Sys2Proof.Machine.execStoreUpdate v cur tc s
  | .report slot f rpm cur v mos cap ph thIn thOut => Sys2Proof.Machine.execReport slot f rpm cur v mos cap ph thIn thOut s
  | .storeRead => Sys2Proof.Machine.execStoreRead s
  | .bsAvailable => Sys2Proof.Machine.execBsAvailable s
  | .pollCycle => Sys2Proof.Machine.execPollCycle s
  | .resync n => Sys2Proof.Machine.execResync n s
  | .wait n => Sys2Proof.Machine.execWait n s
  | .frameRead => Sys2Proof.Machine.execFrameRead s
  | .bsRead n => Sys2Proof.Machine.execBsRead n s
  | .shortRead k => Sys2Proof.Machine.execShortRead k s
  | .bsDiscard => Sys2Proof.Machine.execBsDiscard s
  | .bsClose => Sys2Proof.Machine.execBsClose s
  | .arrive bytes => Sys2Proof.Machine.execArrive bytes s
  | .start r => Sys2Proof.Machine.execStart r s
  | .cancel => Sys2Proof.Machine.execCancel s
  | .transportFailure op => Sys2Proof.Machine.execTransportFailure op s

end Sys2Proof.Machine
end

