-- ==== Sys2Proof/Machine/Step.lean ====
section
/-! DEFINITION. One step: the environment's next move decides which agent acts (R7), and the selected operation runs. -/

namespace Sys2Proof.Machine

/-- One step of the whole system (R7, R244, R247). The core has the move: its enabled step runs, or nothing happens. -/
def step (s : State) : Host.Outcome State Fault Refusal :=
  match s.select with
  | (.run i, s1) => exec i s1
  | (.requestCancel, s1) => .next s1.requestCancel
  | (.reset, s1) => .next s1.hostReset
  | (.idle, s1) => .next s1

/-- `s` with the frame that the table word `w` stands for where the next poll cycle takes it: alone in PENDING, in RUNNING and POLL
with no cancel request, by a block configured with the word's HEAD_MARKER, the core having the next move and the byte source serving
its two calls (log 7). -/
def State.withFetchWord (s : State) (nbits w : Nat) : State :=
  { s with
    cfg := { s.cfg with headMarker := tableHeadMarker nbits w }
    pending := tableBytes nbits w
    lifecycle := .running
    phase := .poll
    srcOpen := true
    cancelReq := false
    schedule := [.core]
    answers := [.serve frameSize, .serve frameSize] }

end Sys2Proof.Machine
end

