-- ==== Sys2Proof/Safety.lean ====
section
/-! DEFINITION. What holds of every state a run can reach, in the terms the statements use. A run is any sequence of `step`s; the
environment's moves and draws are arbitrary. -/

namespace Sys2Proof.Machine

/-- The triple of the latest STORE_UPDATE event of a report stream (R59), if it has one. -/
def lastStored : List Event → Option (Half × Half × Word)
  | [] => none
  | e :: es =>
    match lastStored es with
    | some t => some t
    | none =>
      match e with
      | .storeUpdate v c t => some (v, c, t)
      | _ => none

/-- How many STORE_UPDATE events a report stream holds. -/
def storeUpdateCount : List Event → Nat
  | [] => 0
  | .storeUpdate _ _ _ :: es => storeUpdateCount es + 1
  | _ :: es => storeUpdateCount es

/-- How many CHANNEL_REPORT events a report stream holds. -/
def channelReportCount : List Event → Nat
  | [] => 0
  | .channelReport _ _ :: es => channelReportCount es + 1
  | _ :: es => channelReportCount es

/-- What the store holds, as R208 shows it to a reader. -/
def Store.sample (st : Store) : Option (Half × Half × Word) :=
  if st.valid then some (st.voltage, st.current, st.temp) else none

/-- Every byte of FRAME_BUF has been written (R22). -/
def State.frameWritten (s : State) : Prop := ∀ i, i < frameSize → (s.frameBuf.read i).isSome = true

/-- The invariant of the whole system. -/
structure Inv (s : State) : Prop where
  /-- The configuration is one the spec has runs for (R292). -/
  config : s.cfg.Legal
  /-- FRAME_BUF is in its canonical form and inside its offsets (R50). -/
  memory : s.frameBuf.wf = true
  /-- PHASE is DECODE only in RUNNING (R244's table has no other row). -/
  decoding : s.phase = .decode → s.lifecycle = .running
  /-- No rule reads FRAME_BUF before a frame read has written it (R22). -/
  written : s.phase = .decode → s.frameWritten
  /-- The source is open while the block runs (R241). -/
  sourceOpen : s.lifecycle = .running → s.srcOpen = true
  /-- It is closed before START(OK) and after the cancel (R30, R239, R242). -/
  sourceClosed : s.lifecycle = .unopened ∨ s.lifecycle = .stopped → s.srcOpen = false
  /-- A reader sees the latest store update, or NoSample if there is none since reset (R59). -/
  stored : s.store.sample = lastStored s.reports
  /-- Each store update has its channel report (R207). -/
  reported : storeUpdateCount s.reports = channelReportCount s.reports

/-! ### The rules' own values, written apart from the operations that compute them -/

/-- One byte of the bit-serial CRC (R115): into bits 15..8 of the register, then 8 shift steps. -/
def bitSerialByte (reg : Half) (b : Byte) : Half := crcShifts 8 (reg ^^^ (b.setWidth 16 <<< 8))

/-- The bit-serial CRC of R115, from register 0x0000. -/
def bitSerial (bytes : List Byte) : Half := bytes.foldl bitSerialByte 0x0000#16

/-- The bytes the frame checksum covers in each layout (R10, R81, R113): 1..161 in A, 1..157 in B and C. -/
def coveredBytes (lay : Layout) (rd : Nat → Byte) : List Byte :=
  match lay with
  | .a => (List.range 161).map (fun j => rd (j + 1))
  | .b => (List.range 157).map (fun j => rd (j + 1))
  | .c => (List.range 157).map (fun j => rd (j + 1))

/-- The last covered offset (R10). -/
def lastCovered : Layout → Nat
  | .a => 161
  | .b => 157
  | .c => 157

/-- The checksum's offset (R10). -/
def checksumPlace : Layout → Nat
  | .a => 162
  | .b => 158
  | .c => 162

/-- A big-endian 16-bit field as a number (R13, R51). -/
def be16Value (rd : Nat → Byte) (i : Nat) : Nat := 256 * (rd i).toNat + (rd (i + 1)).toNat

/-- A big-endian two's-complement 16-bit field as a number (R87): bit 7 of the first byte is the sign. -/
def signedBe16Value (rd : Nat → Byte) (i : Nat) : Int :=
  if 128 ≤ (rd i).toNat then (be16Value rd i : Int) - 65536 else (be16Value rd i : Int)

/-- The gate of a slot (R201): its RPM is positive exactly if POLE_COUNT ≤ 10 * ERPM. -/
abbrev slotGated (s : State) (k : Fin 8) : Prop :=
  0 < (s.channelFields k).volt.toNat ∨ 0 < (s.channelFields k).curr.toInt
    ∨ s.cfg.poleCount.toNat ≤ 10 * (s.channelFields k).erpm.toNat ∨ 2 ≤ (s.channelFields k).motorIdx.toNat

/-- The store after the update of a gated slot (R203, R188). -/
def slotStore (s : State) (k : Fin 8) : Store where
  valid := true
  voltage := (s.channelFields k).volt
  current := (s.channelFields k).curr
  temp := BitVec.ofInt 32 (100 * tempScan s.cfg.tempTable (s.channelFields k).tMos)

/-- The report record of a gated slot (R204). -/
def slotReport (s : State) (k : Fin 8) : ChannelReport where
  motorIndex := (s.channelFields k).motorIdx
  rpm := BitVec.ofNat 32 (10 * (s.channelFields k).erpm.toNat / s.cfg.poleCount.toNat)
  current := (s.channelFields k).curr
  voltage := (s.channelFields k).volt
  mosTemp := BitVec.ofInt 16 (tempScan s.cfg.tempTable (s.channelFields k).tMos)
  capTemp := BitVec.ofInt 16 (tempScan s.cfg.tempTable (s.channelFields k).tCap)
  extTag := (s.channelFields k).tag
  extThrIn := (s.channelFields k).thrIn
  extThrOut := (s.channelFields k).thrOut
  extPhaseCurrent := (s.channelFields k).phCurr
  extStatus := (s.channelFields k).status

/-- The events of a gated slot, the store update first (R207). -/
def slotEvents (s : State) (k : Fin 8) : List Event :=
  [.storeUpdate (slotStore s k).voltage (slotStore s k).current (slotStore s k).temp, .channelReport k (slotReport s k)]

/-- The gated slots of FRAME_BUF, in slot order (R205). -/
def gatedSlots (s : State) : List (Fin 8) := (List.finRange 8).filter (fun k => decide (slotGated s k))

/-- The same operation `n` times, while it answers a next state. -/
def repeatExec (i : Instr) : Nat → State → Host.Outcome State Fault Refusal
  | 0, s => .next s
  | n + 1, s =>
    match exec i s with
    | .next t => repeatExec i n t
    | .fault r => .fault r
    | .refused r => .refused r

/-- An integer at distance at most 1/2 from `q`; of two such integers, the even one. -/
def roundEven (q : Rat) : Int :=
  if q - ⌊q⌋ < 1 / 2 then ⌊q⌋
  else if 1 / 2 < q - ⌊q⌋ then ⌊q⌋ + 1
  else if ⌊q⌋ % 2 = 0 then ⌊q⌋ else ⌊q⌋ + 1

/-- The distance of neighbouring binary64 numbers at `q`: 53 significant bits, and the subnormal spacing below 2^-1022. -/
def binary64Spacing (q : Rat) : Rat := 2 ^ (max (Int.log 2 |q|) (-1022) - 52)

/-- Binary64 rounding to nearest, ties to even, of a rational that does not overflow (R187's fl, on the model's rationals: log 24). -/
def binary64Nearest (q : Rat) : Rat := roundEven (q / binary64Spacing q) * binary64Spacing q

/-- What R187's proof uses of binary64 rounding to nearest: it keeps integers up to 2^53 (items 1 and 2), and in the normal range its
relative error is at most 2^-53 (item 4). Nothing is asked where binary64 underflows or overflows; `binary64Nearest` is an instance
(`binary64Nearest_rounds`). -/
def RoundsLikeBinary64 (fl : Rat → Rat) : Prop :=
  (∀ z : Int, |z| ≤ 2 ^ 53 → fl z = z)
  ∧ ∀ q : Rat, 1 / 2 ^ 1022 ≤ |q| → |q| ≤ 2 ^ 1023 → |fl q - q| ≤ |q| / 2 ^ 53

end Sys2Proof.Machine
end

