-- ==== Sys2Proof/Certificates/Slice0/Obligations.lean ====
section
/-! DEFINITION. The statements for the provers. A value an operation returns is shown in the model's own field `result` (log 8);
statements that only concern the block's own state leave that field unconstrained. `crcRomContents` are the 256 values of R110, which
the spec itself takes from general knowledge (log 18): a statement with that premise is derived. -/

open Sys2Proof Sys2Proof.Machine

/-! ### Encoding -/

/-- R81–R83, R85–R87: every field of a frame, at every value, comes back from its 164 bytes, in every layout. -/
def Obligations.DecodeEncodeRoundTrip : Prop :=
  ∀ (h : Byte) (lay : Layout) (f : Frame), decode h lay (encodeFrame h lay f) = .ok (.telemetryFrame f)

/-- R80, R81: no bit of an accepted frame is dropped: the decoded instruction encodes to the same bytes. -/
def Obligations.EncodeDecodeRoundTrip : Prop :=
  ∀ (h : Byte) (lay : Layout) (bytes : List Byte) (i : Instr),
    decode h lay bytes = .ok i → encode h lay i = some bytes

/-- R80, R84, R90: 164 bytes are a frame exactly if bytes 0..3 are HEAD_MARKER, 158, 1, 2; every other header is rejected with its
four values, and every other length by its length. That the decoder answers by these two names is the model's form (log 7). -/
def Obligations.HeaderDecidesLegality : Prop :=
  ∀ (h : Byte) (lay : Layout) (bytes : List Byte),
    if bytes.length = 164 then
      if byteOf bytes 0 = h ∧ (byteOf bytes 1).toNat = 158 ∧ (byteOf bytes 2).toNat = 1 ∧ (byteOf bytes 3).toNat = 2 then
        ∃ f, decode h lay bytes = .ok (.telemetryFrame f)
      else decode h lay bytes = .error (.badHeader (byteOf bytes 0) (byteOf bytes 1) (byteOf bytes 2) (byteOf bytes 3))
    else decode h lay bytes = .error (.wrongLength bytes.length)

/-- The rows of V23 that keep HEAD_MARKER, through the table's numbering: each word is read by the block whose HEAD_MARKER is the
word's own top byte, the model's choice (log 7). V23's wrong-marker row cannot be said so; HeaderDecidesLegality covers it. -/
def Obligations.TableWordsDecodeAsListed : Prop :=
  (∃ f, decodeTableWord 32 0x009E0102 = some (.telemetryFrame f))
  ∧ (∃ f, decodeTableWord 32 0x5A9E0102 = some (.telemetryFrame f))
  ∧ decodeTableWord 32 0x5A9E0100 = none ∧ decodeTableWord 32 0x5A9E0202 = none ∧ decodeTableWord 32 0x5A000102 = none

/-! ### Steps -/

/-- A step runs the decoded instruction: the core has the move in RUNNING and POLL without a cancel request, the byte source serves
its two calls, and the pending bytes decode to `i`. Then the step is exec of `i` on the state whose move and draws are taken and
whose PENDING has been read empty (log 7). -/
def Obligations.StepRunsDecodedFrame : Prop :=
  ∀ (s s1 s2 s3 : State) (a b : Nat) (i : Instr),
    s.nextMove = (.core, s1) → s1.nextAnswer = (.serve a, s2) → s2.nextAnswer = (.serve b, s3) →
    s.lifecycle = .running → s.phase = .poll → s.cancelReq = false →
    (s.cfg.bsConforming = true ∨ 164 ≤ b) →
    decode s.cfg.headMarker s.cfg.layout s.pending = .ok i →
    step s = exec i { s3 with pending := [] }

/-- R244: what the core does when it has the move, for every row of the enabling table. Where the table says none, the model's step
changes nothing but the environment's own fields (log 11). -/
def Obligations.StepFollowsEnablingTable : Prop :=
  ∀ s s1 : State, s.nextMove = (.core, s1) →
    (s.lifecycle = .unopened → s.phase = .poll → s.cancelReq = false → step s = .next s1)
    ∧ (s.lifecycle = .unopened → s.phase = .poll → s.cancelReq = true → step s = exec .cancel s1)
    ∧ (s.lifecycle = .running → s.phase = .poll → s.cancelReq = false → step s = exec .pollCycle s1)
    ∧ (s.lifecycle = .running → s.phase = .poll → s.cancelReq = true → step s = exec .cancel s1)
    ∧ (s.lifecycle = .running → s.phase = .decode → step s = exec .decodeChannel s1)
    ∧ (s.lifecycle = .stopped → step s = .next s1)
    ∧ (s.lifecycle = .failed → step s = .next s1)

/-- R240, R241, R247, R31, R290, R208: the moves of the Host and of a StoreReader, in every state. -/
def Obligations.StepRunsEnvironmentMoves : Prop :=
  ∀ s s1 : State,
    (∀ r, s.nextMove = (.start r, s1) → step s = exec (.start r) s1)
    ∧ (∀ bs, s.nextMove = (.arrive bs, s1) → step s = exec (.arrive bs) s1)
    ∧ (s.nextMove = (.storeRead, s1) → step s = exec .storeRead s1)
    ∧ (s.nextMove = (.requestCancel, s1) → step s = .next { s1 with cancelReq := true })

/-- R290, R36: a reset at any time. Every field of the block has its reset value; the configuration stays; the values R36 calls
unspecified are not constrained. -/
def Obligations.ResetMoveClearsTheBlock : Prop :=
  ∀ s s1 : State, s.nextMove = (.reset, s1) →
    ∃ t, step s = .next t ∧ t.cfg = s.cfg ∧ t.lifecycle = .unopened ∧ t.phase = .poll ∧ t.store.valid = false
      ∧ t.cancelReq = false ∧ t.reports = [] ∧ t.pending = [] ∧ t.srcOpen = false

/-- R36: the state after reset, of the block that State.reset describes; the defaults of R9 are its configuration (log 6). -/
def Obligations.ResetStateIsAsListed : Prop :=
  State.reset.lifecycle = .unopened ∧ State.reset.phase = .poll ∧ State.reset.store.valid = false
  ∧ State.reset.cancelReq = false ∧ State.reset.pending = [] ∧ State.reset.srcOpen = false ∧ State.reset.reports = []
  ∧ State.reset.cfg.poleCount.toNat = 1 ∧ State.reset.cfg.layout = .a ∧ State.reset.cfg.bsConforming = true
  ∧ State.reset.cfg.crcRom = crcRomContents
  ∧ ∀ r : Byte, (tempDecode State.reset.cfg r).toInt = tempScan State.reset.cfg.tempTable r

/-! ### Checksum engine -/

/-- R111 with R110's generator for the ROM: one CRC step. -/
def Obligations.CrcStepUsesGeneratedTable : Prop :=
  ∀ (s : State) (acc : Half) (b : Byte), s.cfg.crcRom = crcRomContents →
    exec (.crcStep acc b) s
      = .next { s with result := .u16 ((acc <<< 8) ^^^ crcRomEntry ((acc >>> 8).setWidth 8 ^^^ b)) }

/-- R112, R115: CRC_COMPUTE leaves the bit-serial CRC of its bytes in CRC_ACC, returns it, and changes nothing else. -/
def Obligations.CrcComputeIsBitSerial : Prop :=
  ∀ (s : State) (bytes : List Byte), s.cfg.crcRom = crcRomContents →
    exec (.crcCompute bytes) s = .next { s with crcAcc := bitSerial bytes, result := .u16 (bitSerial bytes) }

/-- R115: the checksum is M(x)·x^16 modulo x^16 + x^12 + x^5 + 1 (the register has degree below 16 by its width). -/
def Obligations.CrcIsPolynomialRemainder : Prop :=
  ∀ (s : State) (bytes : List Byte), s.cfg.crcRom = crcRomContents →
    ∃ v : Half, exec (.crcCompute bytes) s = .next { s with crcAcc := v, result := .u16 v } ∧
      ((Polynomial.X ^ 16 + Polynomial.X ^ 12 + Polynomial.X ^ 5 + 1 : Polynomial (ZMod 2)) ∣
        (∑ k ∈ Finset.range bytes.length, ∑ i ∈ Finset.range 8,
            if (bytes.getD k 0).getLsbD i then (Polynomial.X : Polynomial (ZMod 2)) ^ (8 * (bytes.length - 1 - k) + i) else 0)
          * Polynomial.X ^ 16
        + ∑ i ∈ Finset.range 16, if v.getLsbD i then (Polynomial.X : Polynomial (ZMod 2)) ^ i else 0)

/-- R113, R10: FRAME_CRC covers offsets 1..161 in layout A and 1..157 in layouts B and C. -/
def Obligations.FrameCrcCoversItsRange : Prop :=
  ∀ s : State, s.cfg.crcRom = crcRomContents →
    exec .frameCrc s = .next { s with
      crcAcc := bitSerial (coveredBytes s.cfg.layout s.frameByte)
      result := .u16 (bitSerial (coveredBytes s.cfg.layout s.frameByte)) }

/-- R114, which the spec derives from R111–R113: two frames that agree on offsets 1..CRC_LAST have one checksum, whatever their
head and checksum bytes. -/
def Obligations.HeadNeverAffectsFrameCrc : Prop :=
  ∀ s t : State, s.cfg.layout = t.cfg.layout → s.cfg.crcRom = t.cfg.crcRom →
    (∀ i, 1 ≤ i → i ≤ lastCovered s.cfg.layout → s.frameByte i = t.frameByte i) →
    ∃ v, exec .frameCrc s = .next { s with crcAcc := v, result := .u16 v }
      ∧ exec .frameCrc t = .next { t with crcAcc := v, result := .u16 v }

/-- R134 (the spec's general knowledge, log 18): flipping any single bit of the covered range, or of the checksum bytes, of a
frame that passes makes the check reject. -/
def Obligations.SingleBitErrorIsRejected : Prop :=
  ∀ (s t : State) (o k : Nat), s.cfg.crcRom = crcRomContents → t.cfg = s.cfg → k < 8 →
    (1 ≤ o ∧ o ≤ lastCovered s.cfg.layout ∨ o = checksumPlace s.cfg.layout ∨ o = checksumPlace s.cfg.layout + 1) →
    (∀ i, t.frameByte i = if i = o then s.frameByte i ^^^ (1#8 <<< k) else s.frameByte i) →
    (∃ u, exec (.checksumCheck s.checksumField) s = .next u ∧ u.reports = s.reports) →
    ∃ v r, v ≠ t.checksumField ∧ exec (.checksumCheck t.checksumField) t
      = .next { t with crcAcc := v, reports := t.reports ++ [.rejectChecksum t.checksumField v], result := r }

/-! ### Frame validator -/

/-- R131, R133, R82, R83: the header fields big-endian, the checksum little-endian at its layout's place; nothing else changes. -/
def Obligations.ParsesReadFrameFields : Prop :=
  ∀ s : State,
    (∃ h : Header, exec .parseHeader s = .next { s with result := .header h }
      ∧ h.head = s.frameByte 0 ∧ h.length = s.frameByte 1 ∧ h.version = s.frameByte 2 ∧ h.command = s.frameByte 3
      ∧ h.reserved.toNat = be16Value s.frameByte 4)
    ∧ (∃ v : Half, exec .parseChecksum s = .next { s with result := .u16 v }
      ∧ v.toNat = (s.frameByte (checksumPlace s.cfg.layout)).toNat
          + 256 * (s.frameByte (checksumPlace s.cfg.layout + 1)).toNat)

/-- R132: HEADER_CHECK passes exactly on HEAD_MARKER, 158, 1, 2, and otherwise only emits REJECT_HEADER with all four values. -/
def Obligations.HeaderCheckRejectsMismatch : Prop :=
  ∀ (s : State) (h l v c : Byte),
    ∃ r, exec (.headerCheck h l v c) s =
      if h = s.cfg.headMarker ∧ l.toNat = 158 ∧ v.toNat = 1 ∧ c.toNat = 2 then .next { s with result := r }
      else .next { s with reports := s.reports ++ [.rejectHeader h l v c], result := r }

/-- R84 against R132: the mask-and-match form and the field form of the header test agree on every header word. -/
def Obligations.HeaderWordFormsAgree : Prop :=
  ∀ (m h l v c : Byte), headerWordLegal m (h ++ l ++ v ++ c) = true ↔ (h = m ∧ l.toNat = 158 ∧ v.toNat = 1 ∧ c.toNat = 2)

/-- R134: CHECKSUM_CHECK computes the frame's CRC into CRC_ACC and rejects with (received, computed) exactly if they differ. -/
def Obligations.ChecksumCheckComparesCrc : Prop :=
  ∀ (s : State) (rx : Half), s.cfg.crcRom = crcRomContents →
    ∃ r, exec (.checksumCheck rx) s =
      if rx = bitSerial (coveredBytes s.cfg.layout s.frameByte) then
        .next { s with crcAcc := bitSerial (coveredBytes s.cfg.layout s.frameByte), result := r }
      else .next { s with
        crcAcc := bitSerial (coveredBytes s.cfg.layout s.frameByte)
        reports := s.reports ++ [.rejectChecksum rx (bitSerial (coveredBytes s.cfg.layout s.frameByte))]
        result := r }

/-- R135: the fixed order of the validator: a bad header rejects before the checksum is computed; then a bad checksum rejects; else
the frame is accepted. -/
def Obligations.ValidateFrameFollowsFixedOrder : Prop :=
  ∀ s : State, s.cfg.crcRom = crcRomContents →
    let v := bitSerial (coveredBytes s.cfg.layout s.frameByte)
    let badHeader := ¬ (s.frameByte 0 = s.cfg.headMarker ∧ (s.frameByte 1).toNat = 158 ∧ (s.frameByte 2).toNat = 1
      ∧ (s.frameByte 3).toNat = 2)
    (badHeader → ∃ r, exec .validateFrame s = .next { s with
        reports := s.reports ++ [.rejectHeader (s.frameByte 0) (s.frameByte 1) (s.frameByte 2) (s.frameByte 3)]
        result := r })
    ∧ (¬ badHeader → s.checksumField ≠ v → ∃ r, exec .validateFrame s = .next { s with
        crcAcc := v, reports := s.reports ++ [.rejectChecksum s.checksumField v], result := r })
    ∧ (¬ badHeader → s.checksumField = v → ∃ r, exec .validateFrame s = .next { s with
        crcAcc := v, phase := .decode, chIdx := 0, reports := s.reports ++ [.frameAccept], result := r })

/-- R136: ACCEPT emits FRAME_ACCEPT and opens the decode of slot 0. -/
def Obligations.AcceptOpensDecode : Prop :=
  ∀ s : State, ∃ r, exec .accept s
    = .next { s with phase := .decode, chIdx := 0, reports := s.reports ++ [.frameAccept], result := r }

/-- R84, R135: TELEMETRY_FRAME puts the frame's 164 bytes into FRAME_BUF, and its checksum alone decides between FRAME_ACCEPT with
the decode of slot 0 and REJECT_CHECKSUM; nothing else changes. -/
def Obligations.TelemetryFrameIsValidated : Prop :=
  ∀ (s : State) (f : Frame), s.cfg.crcRom = crcRomContents →
    let bytes := encodeFrame s.cfg.headMarker s.cfg.layout f
    let v := bitSerial (coveredBytes s.cfg.layout (byteOf bytes))
    ∃ (m : Memory) (r : Result), (s.frameBuf.wf = true → m.wf = true) ∧ (∀ i, i < 164 → m.read i = some (byteOf bytes i)) ∧
      (∀ i, 164 ≤ i → m.read i = s.frameBuf.read i) ∧
      exec (.telemetryFrame f) s =
        if f.checksum = v then .next { s with
          frameBuf := m, crcAcc := v, phase := .decode, chIdx := 0, reports := s.reports ++ [.frameAccept], result := r }
        else .next { s with
          frameBuf := m, crcAcc := v, reports := s.reports ++ [.rejectChecksum f.checksum v], result := r }

/-- R137, R263: a validated frame that is not accepted changes nothing of the block but CRC_ACC and one event of the report
stream. -/
def Obligations.RejectionIsPrecise : Prop :=
  ∀ s t : State, exec .validateFrame s = .next t → t.reports ≠ s.reports ++ [.frameAccept] →
    ∃ e v r, t = { s with crcAcc := v, reports := s.reports ++ [e], result := r }
      ∧ ((∃ h l n c, e = .rejectHeader h l n c) ∨ ∃ a b, e = .rejectChecksum a b)

/-! ### Temperature decoder -/

/-- R161, and R168, which the spec derives from it and R166 W2: TEMP_SCAN gives 0 for raw 0, else the value of the entry with the
largest threshold ≤ raw, else the table's maximum. -/
def Obligations.TempScanFindsLargestThreshold : Prop :=
  ∀ (s : State) (raw : Byte), TempTable.Legal s.cfg.tempTable →
    ∃ v : Int, exec (.tempScan raw) s = .next { s with result := .degrees v }
      ∧ (raw.toNat = 0 → v = 0)
      ∧ (∀ e ∈ s.cfg.tempTable, raw.toNat ≠ 0 → e.threshold ≤ raw.toNat →
          (∀ e' ∈ s.cfg.tempTable, e'.threshold ≤ raw.toNat → e'.threshold ≤ e.threshold) → v = e.value)
      ∧ (raw.toNat ≠ 0 → (∀ e ∈ s.cfg.tempTable, (raw.toNat : Int) < e.threshold) → v = 130)

/-- R162–R165: the ROM gives the scan's value, unwrapped in s16, to TEMP_DECODE, TEMP_MOS and TEMP_CAP. -/
def Obligations.TempDecodeEqualsScan : Prop :=
  ∀ (s : State) (raw : Byte), s.cfg.Legal →
    ∃ v : Half, v.toInt = tempScan s.cfg.tempTable raw
      ∧ exec (.tempDecode raw) s = .next { s with result := .s16 v }
      ∧ exec (.tempMos raw) s = .next { s with result := .s16 v }
      ∧ exec (.tempCap raw) s = .next { s with result := .s16 v }

/-- R167, which the spec derives from R161, R162 and R166: the ROM entries and bounds that the constraints fix. -/
def Obligations.TempRomFixedEntries : Prop :=
  ∀ c : Config, c.Legal →
    (tempDecode c 0).toInt = 0 ∧ (tempDecode c 241).toInt = 0 ∧ (tempDecode c 240).toInt = 1
    ∧ (∀ r : Byte, 1 ≤ r.toNat → r.toNat ≤ 31 → (tempDecode c r).toInt = 130)
    ∧ (∀ r : Byte, ∀ e, c.tempTable[128]? = some e → 1 ≤ r.toNat → (r.toNat : Int) < e.threshold → (tempDecode c r).toInt = 130)
    ∧ (∀ r : Byte, 1 ≤ r.toNat → r.toNat ≤ 240 → 1 ≤ (tempDecode c r).toInt ∧ (tempDecode c r).toInt ≤ 130)
    ∧ (∀ r : Byte, 241 ≤ r.toNat → (tempDecode c r).toInt ≤ 0)
    ∧ 1 ≤ (tempDecode c 235).toInt
    ∧ ((∃ e ∈ c.tempTable, e.threshold < 235 ∧ (∀ e' ∈ c.tempTable, e'.threshold < 235 → e'.threshold ≤ e.threshold)
          ∧ (tempDecode c 235).toInt = e.value)
      ∨ (∀ e ∈ c.tempTable, 235 ≤ e.threshold) ∧ (tempDecode c 235).toInt = 130)

/-- R169, which the spec derives from R161 and R166: over raw codes 1..255 the ROM is non-increasing; the only break is raw 0,
which gives 0 while raw 1 gives 130. -/
def Obligations.TempRomIsNonIncreasing : Prop :=
  ∀ c : Config, c.Legal →
    (∀ r r' : Byte, 1 ≤ r.toNat → r.toNat ≤ r'.toNat → (tempDecode c r').toInt ≤ (tempDecode c r).toInt)
    ∧ (tempDecode c 0).toInt = 0 ∧ (tempDecode c 1).toInt = 130

/-! ### Field scalers -/

/-- R180–R185, R189: the five unit scalers return a code that denotes the source's formula exactly, and change nothing else. -/
def Obligations.UnitScalersDenoteExactValues : Prop :=
  ∀ (s : State) (raw : Half),
    (∃ code, exec (.scaleCurrent raw) s = .next { s with result := .s16 code } ∧ denotedCurrent code = (raw.toInt : Rat) / 64)
    ∧ (∃ code, exec (.scalePhaseCurrent raw) s = .next { s with result := .s16 code }
        ∧ denotedCurrent code = (raw.toInt : Rat) / 64)
    ∧ (∃ code, exec (.scaleVoltage raw) s = .next { s with result := .u16 code } ∧ denotedVoltage code = (raw.toNat : Rat) / 10)
    ∧ (∃ code, exec (.scaleThrottleIn raw) s = .next { s with result := .u16 code }
        ∧ denotedThrottle code = (raw.toNat : Rat) / 32768)
    ∧ (∃ code, exec (.scaleThrottleOut raw) s = .next { s with result := .u16 code }
        ∧ denotedThrottle code = (raw.toNat : Rat) / 32768)

/-- R186: SCALE_RPM returns floor(10 * ERPM / POLE_COUNT), at most 655350, and changes nothing else. -/
def Obligations.ScaleRpmFloors : Prop :=
  ∀ (s : State) (erpm : Half), 1 ≤ s.cfg.poleCount.toNat →
    ∃ rpm : Word, exec (.scaleRpm erpm) s = .next { s with result := .u32 rpm }
      ∧ rpm.toNat = 10 * erpm.toNat / s.cfg.poleCount.toNat ∧ rpm.toNat ≤ 655350

/-- R187, which the spec derives from R186: the integer RPM equals the source's floating-point formula, for every rounding with
the two properties of binary64 that its proof uses; `binary64Nearest` is one (log 24). -/
def Obligations.RpmAgreesWithFloatFormula : Prop :=
  ∀ (fl : Rat → Rat) (c : Config) (erpm : Half), RoundsLikeBinary64 fl → 1 ≤ c.poleCount.toNat →
    ⌊fl (fl ((erpm.toNat : Rat) * 10) / (c.poleCount.toNat : Rat))⌋ = ((scaleRpm c erpm).toNat : Int)

/-- R188: SCALE_TEMP_CENTI returns 100 times the degrees as s32; nothing overflows for any s16, and a legal table's values stay
within 32700. -/
def Obligations.ScaleTempCentiIsExact : Prop :=
  ∀ (s : State) (mosT : Half),
    ∃ c : Word, exec (.scaleTempCenti mosT) s = .next { s with result := .s32 c } ∧ c.toInt = 100 * mosT.toInt
      ∧ ((-327 ≤ mosT.toInt ∧ mosT.toInt ≤ 327) → -32700 ≤ c.toInt ∧ c.toInt ≤ 32700)

/-! ### Telemetry decoder and store -/

/-- R200, R85–R87: PARSE_CHANNEL reads record k at 6 + 19k, big-endian, with signs only for CURR and PHCURR. -/
def Obligations.ParseChannelReadsRecord : Prop :=
  ∀ (s : State) (k : Fin 8),
    let b := 6 + 19 * k.val
    ∃ c : Channel, exec (.parseChannel k) s = .next { s with result := .channel c }
      ∧ c.tag = s.frameByte b ∧ c.motorIdx.toNat = be16Value s.frameByte (b + 1)
      ∧ c.thrIn.toNat = be16Value s.frameByte (b + 3) ∧ c.thrOut.toNat = be16Value s.frameByte (b + 5)
      ∧ c.erpm.toNat = be16Value s.frameByte (b + 7) ∧ c.volt.toNat = be16Value s.frameByte (b + 9)
      ∧ c.curr.toInt = signedBe16Value s.frameByte (b + 11) ∧ c.phCurr.toInt = signedBe16Value s.frameByte (b + 13)
      ∧ c.tMos = s.frameByte (b + 15) ∧ c.tCap = s.frameByte (b + 16) ∧ c.status.toNat = be16Value s.frameByte (b + 17)

/-- R201: the gate. -/
def Obligations.GateOpensOnSignal : Prop :=
  ∀ (s : State) (f : Channel) (rpm : Word),
    ∃ g : Bool, exec (.gate f rpm) s = .next { s with result := .flag g }
      ∧ (g = true ↔ f.volt ≠ 0 ∨ 0 < f.curr.toInt ∨ rpm ≠ 0 ∨ 2 ≤ f.motorIdx.toNat)

/-- R202–R206: one channel step, in RUNNING and DECODE: a gated slot updates the store and emits its two events, a closed gate does
neither; the index advances, and after slot 7 PHASE is POLL. -/
def Obligations.DecodeChannelRunsOneSlot : Prop :=
  ∀ s : State, s.cfg.Legal → s.lifecycle = .running → s.phase = .decode →
    ∃ r, exec .decodeChannel s = .next { s with
      store := if slotGated s s.chIdx then slotStore s s.chIdx else s.store
      reports := s.reports ++ if slotGated s s.chIdx then slotEvents s s.chIdx else []
      phase := if s.chIdx.val = 7 then .poll else .decode
      chIdx := if s.chIdx.val = 7 then s.chIdx else s.chIdx + 1
      result := r }

/-- R205, and R207, which the spec derives from R202, R203 and R205: the eight channel steps of an accepted frame: PHASE is POLL
again, the store holds the triple of the highest gated slot (or is unchanged), and the events of the gated slots were emitted in
slot order. -/
def Obligations.FrameDecodesEightSlots : Prop :=
  ∀ s : State, s.cfg.Legal → s.lifecycle = .running → s.phase = .decode → s.chIdx = 0 →
    ∃ r, repeatExec .decodeChannel 8 s = .next { s with
      phase := .poll
      chIdx := 7
      store := match (gatedSlots s).getLast? with
        | some k => slotStore s k
        | none => s.store
      reports := s.reports ++ (gatedSlots s).flatMap (slotEvents s)
      result := r }

/-- R203: STORE_UPDATE writes the triple and STORE_VALID in one step and emits its event, whatever the store held. -/
def Obligations.StoreUpdateWritesTriple : Prop :=
  ∀ (s : State) (v cur : Half) (tc : Word), ∃ r, exec (.storeUpdate v cur tc) s = .next { s with
    store := { valid := true, voltage := v, current := cur, temp := tc }
    reports := s.reports ++ [.storeUpdate v cur tc]
    result := r }

/-- R204: the report record's eleven fields, emitted as CHANNEL_REPORT(slot, record); nothing else changes. That the operation
itself emits is the model's reading (log 10). -/
def Obligations.ReportEmitsRecord : Prop :=
  ∀ (s : State) (k : Fin 8) (f : Channel) (rpm : Word) (cur v mos cap ph ti thOut : Half),
    ∃ r : ChannelReport,
      exec (.report k f rpm cur v mos cap ph ti thOut) s
        = .next { s with reports := s.reports ++ [.channelReport k r], result := .report r }
      ∧ r.motorIndex = f.motorIdx ∧ r.rpm = rpm ∧ r.current = cur ∧ r.voltage = v ∧ r.mosTemp = mos ∧ r.capTemp = cap
      ∧ r.extTag = f.tag ∧ r.extThrIn = ti ∧ r.extThrOut = thOut ∧ r.extPhaseCurrent = ph ∧ r.extStatus = f.status

/-- R208, R59, R300: a store read has no side effect. STORE_VALID alone decides what it gives; and in every state that meets the
invariant that is the triple of the latest store update since reset, or NoSample if there is none. -/
def Obligations.StoreReadSeesLatestUpdate : Prop :=
  ∀ s : State,
    exec .storeRead s = .next { s with
      result := if s.store.valid = true then .sample s.store.voltage s.store.current s.store.temp else .noSample }
    ∧ (Inv s → exec .storeRead s = .next { s with
        result := match lastStored s.reports with
          | some t => .sample t.1 t.2.1 t.2.2
          | none => .noSample })

/-! ### Synchronizer -/

/-- R231, R236, R238, R230: a byte-source call that succeeds. A read returns the oldest bytes; a conforming source returns all
that is pending within the bound. -/
def Obligations.ByteSourceCallsServe : Prop :=
  ∀ (s s1 : State) (d : Nat), s.nextAnswer = (.serve d, s1) →
    exec .bsAvailable s = .next { s1 with result := .count s.pending.length }
    ∧ (∃ r, exec .bsDiscard s = .next { s1 with pending := [], result := r })
    ∧ ∀ n, let k := if s.cfg.bsConforming = true then min n s.pending.length else min d (min n s.pending.length)
        exec (.bsRead n) s = .next { s1 with pending := s.pending.drop k, result := .bytes (s.pending.take k) }

/-- R230, R243: a byte-source call that fails: LIFECYCLE is FAILED, one event names the operation, PENDING is the byte source's
draw. -/
def Obligations.ByteSourceFailureIsFatal : Prop :=
  ∀ (s s1 : State) (left : List Byte), s.nextAnswer = (.fail left, s1) →
    (∃ r, exec .bsAvailable s = .next { s1 with
      pending := left, lifecycle := .failed, reports := s.reports ++ [.transportFailure .available], result := r })
    ∧ (∀ n, ∃ r, exec (.bsRead n) s = .next { s1 with
      pending := left, lifecycle := .failed, reports := s.reports ++ [.transportFailure .read], result := r })
    ∧ (∃ r, exec .bsDiscard s = .next { s1 with
      pending := left, lifecycle := .failed, reports := s.reports ++ [.transportFailure .discard], result := r })

/-- R60, R236: a read neither loses, repeats nor reorders a byte, and returns at most what was asked. -/
def Obligations.ReadIsFirstInFirstOut : Prop :=
  ∀ (s s1 : State) (d n : Nat), s.nextAnswer = (.serve d, s1) →
    ∃ (t : State) (bs : List Byte), exec (.bsRead n) s = .next t ∧ t.result = .bytes bs
      ∧ bs ++ t.pending = s.pending ∧ bs.length ≤ n

/-- R234, R237, R239, R240, R243: the plain effects of WAIT, SHORT_READ, BS_CLOSE, ARRIVE and TRANSPORT_FAILURE, in every state.
WAIT(n) and SHORT_READ(k) for counts of 164 and more are outside R234 and R237: there the model's choice (log 22). -/
def Obligations.PlainSynchronizerEffects : Prop :=
  ∀ s : State,
    (∀ n, ∃ r, exec (.wait n) s = .next { s with result := r })
    ∧ (∀ k, ∃ r, exec (.shortRead k) s = .next { s with reports := s.reports ++ [.rejectShortRead k], result := r })
    ∧ (∃ r, exec .bsClose s = .next { s with srcOpen := false, result := r })
    ∧ (∀ bs, ∃ r, exec (.arrive bs) s = .next { s with pending := s.pending ++ bs, result := r })
    ∧ ∀ op, ∃ r, exec (.transportFailure op) s
        = .next { s with lifecycle := .failed, reports := s.reports ++ [.transportFailure op], result := r }

/-- R233: RESYNC(n) discards all of PENDING and reports n; if the discard fails, the failure is reported instead (R243, R267) and
PENDING is the draw (log 3). RESYNC(n) for n up to 164 is outside R233: there the model's choice (log 22). -/
def Obligations.ResyncDiscardsPending : Prop :=
  ∀ (s s1 : State) (n : Nat),
    (∀ d, s.nextAnswer = (.serve d, s1) →
      ∃ r, exec (.resync n) s = .next { s1 with pending := [], reports := s.reports ++ [.resync n], result := r })
    ∧ ∀ left, s.nextAnswer = (.fail left, s1) → ∃ r, exec (.resync n) s = .next { s1 with
        pending := left, lifecycle := .failed, reports := s.reports ++ [.transportFailure .discard], result := r }

/-- R235, R237, R243: FRAME_READ with 164 bytes served puts them into FRAME_BUF, byte i at offset i, and does what VALIDATE_FRAME
does there; with fewer served it drops them and reports how many; with a failed read it is the transport failure, PENDING being the
draw (log 3). -/
def Obligations.FrameReadFillsBufferAndValidates : Prop :=
  ∀ s s1 : State,
    (∀ d, s.nextAnswer = (.serve d, s1) →
      let k := if s.cfg.bsConforming = true then min 164 s.pending.length else min d (min 164 s.pending.length)
      (k = 164 → ∃ (m : Memory) (t : State), (∀ i, i < 164 → m.read i = s.pending[i]?)
        ∧ (∀ i, 164 ≤ i → m.read i = s.frameBuf.read i)
        ∧ exec .frameRead s = .next t ∧ exec .validateFrame { s1 with pending := s.pending.drop 164, frameBuf := m } = .next t)
      ∧ (k < 164 → ∃ r, exec .frameRead s = .next { s1 with
          pending := s.pending.drop k, reports := s.reports ++ [.rejectShortRead k], result := r }))
    ∧ ∀ left, s.nextAnswer = (.fail left, s1) → ∃ r, exec .frameRead s = .next { s1 with
        pending := left, lifecycle := .failed, reports := s.reports ++ [.transportFailure .read], result := r }

/-- R232, R135, R136: an enabled poll cycle that sees exactly 164 pending bytes, a full read, a legal header and the right checksum
accepts the frame: its bytes are in FRAME_BUF, PENDING is empty and slot 0 is next. FRAME_READ alone does the same with one draw. -/
def Obligations.PollCycleAcceptsGoodFrame : Prop :=
  ∀ (s s1 s2 : State) (a b : Nat), s.cfg.crcRom = crcRomContents →
    s.lifecycle = .running → s.phase = .poll → s.cancelReq = false →
    s.nextAnswer = (.serve a, s1) → s1.nextAnswer = (.serve b, s2) → (s.cfg.bsConforming = true ∨ 164 ≤ b) →
    s.pending.length = 164 →
    byteOf s.pending 0 = s.cfg.headMarker → (byteOf s.pending 1).toNat = 158 → (byteOf s.pending 2).toNat = 1 →
    (byteOf s.pending 3).toNat = 2 →
    let v := bitSerial (coveredBytes s.cfg.layout (byteOf s.pending))
    v.toNat = (byteOf s.pending (checksumPlace s.cfg.layout)).toNat
      + 256 * (byteOf s.pending (checksumPlace s.cfg.layout + 1)).toNat →
    ∃ (m : Memory) (r : Result), (∀ i, i < 164 → m.read i = s.pending[i]?) ∧ (∀ i, 164 ≤ i → m.read i = s.frameBuf.read i)
      ∧ exec .pollCycle s = .next { s2 with
          pending := [], frameBuf := m, crcAcc := v, phase := .decode, chIdx := 0, reports := s.reports ++ [.frameAccept], result := r }
      ∧ exec .frameRead s1 = exec .pollCycle s

/-- R232–R235, R243: an enabled poll cycle, whatever the byte source answers. A served count below 164 changes nothing (no second
draw is taken); a count of 164 gives what FRAME_READ does, whatever the bytes are; a count above it gives what RESYNC does: PENDING is
emptied and the count reported, or the discard fails. A failed count is the transport failure. PENDING after a failure is the draw
(log 3). -/
def Obligations.PollCycleWaitsAndResyncs : Prop :=
  ∀ s s1 : State, s.lifecycle = .running → s.phase = .poll → s.cancelReq = false →
    (∀ a, s.nextAnswer = (.serve a, s1) →
      (s.pending.length < 164 → ∃ r, exec .pollCycle s = .next { s1 with result := r })
      ∧ (s.pending.length = 164 → exec .pollCycle s = exec .frameRead s1)
      ∧ (164 < s.pending.length → exec .pollCycle s = exec (.resync s.pending.length) s1
        ∧ ∀ s2 : State,
          (∀ b, s1.nextAnswer = (.serve b, s2) → ∃ r, exec .pollCycle s = .next { s2 with
            pending := [], reports := s.reports ++ [.resync s.pending.length], result := r })
          ∧ ∀ left, s1.nextAnswer = (.fail left, s2) → ∃ r, exec .pollCycle s = .next { s2 with
            pending := left, lifecycle := .failed, reports := s.reports ++ [.transportFailure .discard], result := r }))
    ∧ ∀ left, s.nextAnswer = (.fail left, s1) → ∃ r, exec .pollCycle s = .next { s1 with
        pending := left, lifecycle := .failed, reports := s.reports ++ [.transportFailure .available], result := r }

/-- R267, which the spec derives from R232 and R135: a poll cycle has at most one outcome: it emits at most one event, and
whatever it does, the store, the configuration, the cancel request and the source's openness are as before; PHASE changes only
with FRAME_ACCEPT and LIFECYCLE only with TRANSPORT_FAILURE. -/
def Obligations.PollCycleHasOneOutcome : Prop :=
  ∀ s t : State, exec .pollCycle s = .next t →
    t.store = s.store ∧ t.cfg = s.cfg ∧ t.cancelReq = s.cancelReq ∧ t.srcOpen = s.srcOpen
    ∧ ((t.reports = s.reports ∧ t.phase = s.phase ∧ t.lifecycle = s.lifecycle)
      ∨ ∃ e, t.reports = s.reports ++ [e]
        ∧ ((e = .frameAccept ∧ t.phase = .decode ∧ t.chIdx = 0 ∧ t.lifecycle = s.lifecycle)
          ∨ ((∃ op, e = .transportFailure op) ∧ t.phase = s.phase ∧ t.lifecycle = .failed)
          ∨ (((∃ n, e = .resync n) ∨ (∃ h l v c, e = .rejectHeader h l v c) ∨ (∃ x y, e = .rejectChecksum x y)
              ∨ ∃ k, e = .rejectShortRead k) ∧ t.phase = s.phase ∧ t.lifecycle = s.lifecycle)))

/-- R241: START in UNOPENED, with a configuration R292 accepts. -/
def Obligations.StartOpensOrFails : Prop :=
  ∀ s : State, s.lifecycle = .unopened → s.srcOpen = false → s.cfg.Legal →
    (∃ r, exec (.start .ok) s = .next { s with lifecycle := .running, phase := .poll, srcOpen := true, result := r })
    ∧ ∃ r, exec (.start .fail) s
        = .next { s with lifecycle := .failed, reports := s.reports ++ [.transportFailure .opening], result := r }

/-- START outside UNOPENED has no effect, and a configuration that R292 refuses has no run. How the model says both is its own
choice (log 12, log 13). -/
def Obligations.StartIsRefusedElsewhere : Prop :=
  ∀ (s : State) (x : StartResult),
    (s.lifecycle ≠ .unopened → ∃ r, exec (.start x) s = .next { s with result := r })
    ∧ (s.lifecycle = .unopened → ¬ s.cfg.Legal → exec (.start x) s = .refused .badConfiguration)

/-- R242: CANCEL at a frame boundary closes the source, before START it closes nothing; the run ends in STOPPED. -/
def Obligations.CancelStopsTheRun : Prop :=
  ∀ s : State, s.cancelReq = true →
    (s.lifecycle = .running → s.phase = .poll → ∃ r, exec .cancel s = .next { s with
      lifecycle := .stopped, cancelReq := false, srcOpen := false, reports := s.reports ++ [.stopped], result := r })
    ∧ (s.lifecycle = .unopened → ∃ r, exec .cancel s = .next { s with
      lifecycle := .stopped, cancelReq := false, reports := s.reports ++ [.stopped], result := r })

/-- A core step asked for where R244 does not enable it stops by name: the model's own choice (log 11). -/
def Obligations.CoreStepsStopWhereNotEnabled : Prop :=
  ∀ s : State,
    (¬ (s.lifecycle = .running ∧ s.phase = .poll ∧ s.cancelReq = false) → exec .pollCycle s = .fault .stepNotEnabled)
    ∧ (¬ (s.lifecycle = .running ∧ s.phase = .decode) → exec .decodeChannel s = .fault .stepNotEnabled)
    ∧ (¬ (s.cancelReq = true ∧ (s.lifecycle = .running ∧ s.phase = .poll ∨ s.lifecycle = .unopened)) →
        exec .cancel s = .fault .stepNotEnabled)

/-! ### The whole system -/

/-- R13, R22: a byte written to FRAME_BUF reads back, and no other byte changes. -/
def Obligations.FrameWriteReadsBack : Prop :=
  ∀ (s : State) (a : Nat) (bytes : List Byte), a + bytes.length ≤ 164 →
    (∀ j, j < bytes.length → (s.memWrite a bytes).frameByte (a + j) = byteOf bytes j)
    ∧ ∀ i, i < a ∨ a + bytes.length ≤ i → (s.memWrite a bytes).frameByte i = s.frameByte i

/-- The invariant holds after reset. -/
def Obligations.InvariantHoldsAtReset : Prop := Inv State.reset

/-- Every step keeps the invariant, whatever the environment does: the configuration stays legal, FRAME_BUF stays canonical, DECODE
happens only in RUNNING and on a written buffer, the source is open exactly as the lifecycle says, a reader sees the latest update,
and each update has its report. -/
def Obligations.EveryStepKeepsInvariant : Prop :=
  ∀ s t : State, Inv s → step s = .next t → Inv t

/-- From a legal state no step stops: every move of the environment has a next state (R244, R247). That a core move with no enabled
step has one is the model's choice (log 11), and so is a START outside UNOPENED (log 12). -/
def Obligations.EveryStepGoesOn : Prop :=
  ∀ s : State, s.cfg.Legal → ∃ t, step s = .next t

/-- R21, R301: no step changes the configuration or a ROM. -/
def Obligations.NoStepChangesConfiguration : Prop :=
  ∀ s t : State, step s = .next t → t.cfg = s.cfg

/-- R27: only a channel step with a gated slot (or reset) changes the store. -/
def Obligations.OnlyGatedSlotsWriteTheStore : Prop :=
  ∀ s t : State, step s = .next t → t.store ≠ s.store →
    (s.nextMove.1 = .reset) ∨
    (s.nextMove.1 = .core ∧ s.lifecycle = .running ∧ s.phase = .decode ∧
      gateOpen (s.channelFields s.chIdx) (scaleRpm s.cfg (s.channelFields s.chIdx).erpm) = true)

/-- R243, R246, R266, R277: STOPPED and FAILED are terminal: only reset leaves them, and no event, no store change and no byte-source
operation follows, not even close: SRC_OPEN is as before, no draw is taken, and PENDING only grows by arrivals. That the core has a
move there which changes nothing is the model's form (log 11). -/
def Obligations.EndedRunsStayEnded : Prop :=
  ∀ s t : State, s.lifecycle = .stopped ∨ s.lifecycle = .failed → s.nextMove.1 ≠ .reset → step s = .next t →
    t.lifecycle = s.lifecycle ∧ t.phase = s.phase ∧ t.reports = s.reports ∧ t.store = s.store ∧ t.frameBuf = s.frameBuf
      ∧ t.srcOpen = s.srcOpen ∧ t.answers = s.answers ∧ t.drawCount = s.drawCount
      ∧ ∃ bs, t.pending = s.pending ++ bs

/-- R33: the report stream is append-only; only reset empties it. -/
def Obligations.ReportStreamIsAppendOnly : Prop :=
  ∀ s t : State, step s = .next t → s.nextMove.1 = .reset ∨ ∃ es, t.reports = s.reports ++ es

/-- R31, R35: a cancel request stays until the CANCEL step takes it, and STORE_VALID once set stays set, until reset. -/
def Obligations.LatchesStaySet : Prop :=
  ∀ s t : State, step s = .next t → s.nextMove.1 ≠ .reset →
    (s.store.valid = true → t.store.valid = true)
    ∧ (s.cancelReq = true → t.cancelReq = true ∨ (t.lifecycle = .stopped ∧ t.reports = s.reports ++ [.stopped]))
end

