-- ==== Sys2Proof/Laws/Bytes.lean ====
section
/-! SUPPORT. Small laws of the byte and word helpers of Decode.lean. -/

namespace Sys2Proof

theorem joinBytes_toNat (hi lo : Byte) : (joinBytes hi lo).toNat = 256 * hi.toNat + lo.toNat := by
  have h := lo.isLt
  simp only [joinBytes, BitVec.toNat_append]
  rw [Nat.shiftLeft_eq, Nat.mul_comm, ← Nat.two_pow_add_eq_or_of_lt h]

theorem hiByte_toNat (v : Half) : (hiByte v).toNat = v.toNat / 256 := by
  have := v.isLt
  simp only [hiByte, BitVec.extractLsb'_toNat, Nat.shiftRight_eq_div_pow]
  omega

theorem loByte_toNat (v : Half) : (loByte v).toNat = v.toNat % 256 := by
  simp [loByte, BitVec.extractLsb'_toNat]

@[simp] theorem hiByte_joinBytes (hi lo : Byte) : hiByte (joinBytes hi lo) = hi := by
  have := lo.isLt
  apply BitVec.eq_of_toNat_eq
  rw [hiByte_toNat, joinBytes_toNat]
  omega

@[simp] theorem loByte_joinBytes (hi lo : Byte) : loByte (joinBytes hi lo) = lo := by
  have := lo.isLt
  apply BitVec.eq_of_toNat_eq
  rw [loByte_toNat, joinBytes_toNat]
  omega

@[simp] theorem joinBytes_hiByte_loByte (v : Half) : joinBytes (hiByte v) (loByte v) = v := by
  apply BitVec.eq_of_toNat_eq
  rw [joinBytes_toNat, hiByte_toNat, loByte_toNat]
  omega

theorem encodeChannel_length (c : Channel) : (encodeChannel c).length = channelSize := rfl

/-- A frame is exactly 164 bytes (R80). -/
theorem encodeFrame_length (h : Byte) (lay : Layout) (f : Frame) : (encodeFrame h lay f).length = frameSize := by
  cases lay <;> rfl

theorem tableBytes_length (nbits w : Nat) : (tableBytes nbits w).length = frameSize := by
  simp only [tableBytes, List.length_append, List.length_map, List.length_range]
  rfl

/-- A byte behind a known start. -/
theorem byteOf_append_right (pre suf : List Byte) (j : Nat) : byteOf (pre ++ suf) (pre.length + j) = byteOf suf j := by
  simp [byteOf, List.getD_eq_getElem?_getD, List.getElem?_append_right]

theorem byteOf_append_left (pre suf : List Byte) (j : Nat) (h : j < pre.length) : byteOf (pre ++ suf) j = byteOf pre j := by
  simp [byteOf, List.getD_eq_getElem?_getD, List.getElem?_append_left h]

/-- The record at an offset depends on its 19 bytes only (R86). -/
theorem channelAt_congr {rd rd' : Nat → Byte} {b b' : Nat} (h : ∀ j, j < channelSize → rd (b + j) = rd' (b' + j)) :
    channelAt rd b = channelAt rd' b' := by
  have h0 := h 0 (by decide)
  simp only [Nat.add_zero] at h0
  simp only [channelAt, be16At, Nat.add_assoc, h0]
  rw [h 1 (by decide), h (1 + 1) (by decide), h 3 (by decide), h (3 + 1) (by decide), h 5 (by decide), h (5 + 1) (by decide),
    h 7 (by decide), h (7 + 1) (by decide), h 9 (by decide), h (9 + 1) (by decide), h 11 (by decide), h (11 + 1) (by decide),
    h 13 (by decide), h (13 + 1) (by decide), h 15 (by decide), h 16 (by decide), h 17 (by decide), h (17 + 1) (by decide)]

theorem channelAt_encodeChannel (c : Channel) : channelAt (byteOf (encodeChannel c)) 0 = c := by
  cases c
  simp only [channelAt, be16At, Channel.mk.injEq]
  refine ⟨rfl, ?_, ?_, ?_, ?_, ?_, ?_, ?_, rfl, rfl, ?_⟩ <;> exact joinBytes_hiByte_loByte _

/-- A record inside a byte list decodes to what it was encoded from (R86). -/
theorem channelAt_append (pre suf : List Byte) (c : Channel) :
    channelAt (byteOf (pre ++ (encodeChannel c ++ suf))) pre.length = c := by
  rw [← channelAt_encodeChannel c]
  refine channelAt_congr fun j hj => ?_
  rw [byteOf_append_right, byteOf_append_left _ _ _ (by rw [encodeChannel_length]; exact hj), Nat.zero_add,
    channelAt_encodeChannel]

/-- Encoding a decoded record gives its 19 bytes back (R86). -/
theorem encodeChannel_channelAt (rd : Nat → Byte) (b : Nat) :
    encodeChannel (channelAt rd b) = (List.range channelSize).map (fun j => rd (b + j)) := by
  simp only [encodeChannel, channelAt, be16At, hiByte_joinBytes, loByte_joinBytes]
  rfl

/-- A byte list is its bytes in order. -/
theorem map_byteOf_range (bytes : List Byte) : (List.range bytes.length).map (byteOf bytes) = bytes := by
  apply List.ext_getElem (by simp)
  intro i h _
  simp only [List.length_map, List.length_range] at h
  simp [byteOf, h]

/-- The four header bytes of a frame (R81). -/
theorem byteOf_encodeFrame_header (h : Byte) (lay : Layout) (f : Frame) :
    byteOf (encodeFrame h lay f) 0 = h ∧ byteOf (encodeFrame h lay f) 1 = expectedLength
      ∧ byteOf (encodeFrame h lay f) 2 = expectedVersion ∧ byteOf (encodeFrame h lay f) 3 = expectedCommand :=
  ⟨rfl, rfl, rfl, rfl⟩

/-- The last six bytes of a frame (R81). -/
theorem byteOf_encodeFrame_tail (h : Byte) (lay : Layout) (f : Frame) (j : Nat) :
    byteOf (encodeFrame h lay f) (158 + j) = byteOf (encodeTail lay f) j := by
  obtain ⟨pre, hp, he⟩ : ∃ pre : List Byte, pre.length = 158 ∧ encodeFrame h lay f = pre ++ encodeTail lay f := ⟨_, rfl, rfl⟩
  rw [he, ← hp, byteOf_append_right]

/-- The checksum of a frame's bytes (R83). -/
theorem le16At_encodeFrame (h : Byte) (lay : Layout) (f : Frame) :
    le16At (byteOf (encodeFrame h lay f)) lay.checksumOffset = f.checksum := by
  have t := byteOf_encodeFrame_tail h lay f
  have h0 := t 0
  have h1 := t 1
  have h4 := t 4
  have h5 := t 5
  cases lay <;> simp_all [le16At, Layout.checksumOffset, encodeTail, byteOf]

end Sys2Proof
end

