-- ==== Sys2Proof/Laws/Memory.lean ====
section
/-! SUPPORT. FRAME_BUF as memory (R13, R50): read after write, and every operation keeps the canonical form. -/

namespace Sys2Proof.Machine

theorem Memory.read_insert (m : Memory) (a i : Nat) (b : Byte) :
    (m.insert a b).read i = if i = a then some b else m.read i := by
  induction m with
  | nil => simp [Memory.insert, Memory.read]
  | cons c m ih =>
    obtain ⟨k, v⟩ := c
    unfold Memory.insert
    split_ifs <;> simp only [Memory.read, ih] <;> split_ifs <;> first | rfl | omega

theorem Memory.read_write (m : Memory) (a i : Nat) (b : Byte) :
    (m.write a b).read i = if i = a ∧ a < frameSize then some b else m.read i := by
  unfold Memory.write
  split_ifs with h1 h2 h2 <;> simp_all [Memory.read_insert]

/-- Read after a block write (R13): the written bytes inside the block, the old ones outside. -/
theorem Memory.read_writeBytes (m : Memory) (a i : Nat) (bs : List Byte) :
    (m.writeBytes a bs).read i
      = if a ≤ i ∧ i < a + bs.length ∧ i < frameSize then bs[i - a]? else m.read i := by
  induction bs generalizing a with
  | nil => simp [Memory.writeBytes]; intros; omega
  | cons b bs ih =>
    simp only [Memory.writeBytes, Memory.read_write, ih, List.length_cons]
    by_cases hia : i = a
    · subst hia
      by_cases hf : i < frameSize
      · simp [hf]
      · simp [hf]
    · have hsub : a < i → i - a = (i - (a + 1)) + 1 := by omega
      by_cases hlt : a < i
      · rw [hsub hlt]
        have : (a + 1 ≤ i ∧ i < a + 1 + bs.length ∧ i < frameSize)
            ↔ (a ≤ i ∧ i < a + (bs.length + 1) ∧ i < frameSize) := by omega
        rw [if_neg (by simp [hia]), List.getElem?_cons_succ]
        exact if_congr this rfl rfl
      · have h1 : ¬ (a + 1 ≤ i ∧ i < a + 1 + bs.length ∧ i < frameSize) := by omega
        have h2 : ¬ (a ≤ i ∧ i < a + (bs.length + 1) ∧ i < frameSize) := by omega
        rw [if_neg h1, if_neg h2]
        simp [hia]

/-- The first offset of the inserted memory. -/
theorem Memory.insert_head (m : Memory) (a : Nat) (b : Byte) :
    ∃ c m', m.insert a b = c :: m' ∧ (c.1 = a ∨ ∃ d l, m = d :: l ∧ c.1 = d.1 ∧ d.1 < a) := by
  cases m with
  | nil => exact ⟨(a, b), [], rfl, .inl rfl⟩
  | cons d l =>
    obtain ⟨k, v⟩ := d
    unfold Memory.insert
    split_ifs with h1 h2
    · exact ⟨_, _, rfl, .inl rfl⟩
    · exact ⟨_, _, rfl, .inl rfl⟩
    · exact ⟨_, _, rfl, .inr ⟨(k, v), l, rfl, rfl, by show k < a; omega⟩⟩

theorem Memory.rising_cons {c : Host.Cell} {m : Memory} (h : Memory.rising (c :: m) = true) :
    Memory.rising m = true := by
  cases m with
  | nil => rfl
  | cons d l => simp only [Memory.rising, Bool.and_eq_true] at h; exact h.2

theorem Memory.rising_insert (m : Memory) (a : Nat) (b : Byte) (h : m.rising = true) :
    (m.insert a b).rising = true := by
  induction m with
  | nil => rfl
  | cons c m ih =>
    obtain ⟨k, v⟩ := c
    unfold Memory.insert
    split_ifs with h1 h2
    · simpa [Memory.rising, h1] using h
    · subst h2
      cases m with
      | nil => rfl
      | cons d l => simpa [Memory.rising] using h
    · have ih' := ih (Memory.rising_cons h)
      obtain ⟨d, m', hm, hd⟩ := Memory.insert_head m a b
      rw [hm] at ih' ⊢
      simp only [Memory.rising, Bool.and_eq_true, decide_eq_true_eq]
      refine ⟨?_, ih'⟩
      rcases hd with hd | ⟨e, l, rfl, hd, _⟩
      · omega
      · simp only [Memory.rising, Bool.and_eq_true, decide_eq_true_eq] at h
        omega

theorem Memory.mem_insert {m : Memory} {a : Nat} {b : Byte} {c : Host.Cell} (h : c ∈ m.insert a b) :
    c = (a, b) ∨ c ∈ m := by
  induction m with
  | nil => simpa [Memory.insert] using h
  | cons d m ih =>
    obtain ⟨k, v⟩ := d
    unfold Memory.insert at h
    split_ifs at h <;> simp only [List.mem_cons] at h ⊢ <;> tauto

theorem Memory.wf_write (m : Memory) (a : Nat) (b : Byte) (h : m.wf = true) : (m.write a b).wf = true := by
  unfold Memory.write
  split_ifs with ha
  · simp only [Memory.wf, Bool.and_eq_true, List.all_eq_true, decide_eq_true_eq] at h ⊢
    refine ⟨⟨Memory.rising_insert m a b h.1.1, ?_⟩, fun c _ => by simp [Memory.unlisted]⟩
    intro c hc
    rcases Memory.mem_insert hc with rfl | hc
    · exact ha
    · exact h.1.2 c hc
  · exact h

/-- Every memory operation keeps the canonical form. -/
theorem Memory.wf_writeBytes (m : Memory) (a : Nat) (bs : List Byte) (h : m.wf = true) :
    (m.writeBytes a bs).wf = true := by
  induction bs generalizing a with
  | nil => exact h
  | cons b bs ih => exact Memory.wf_write _ _ _ (ih _)

theorem State.memWrite_wf (s : State) (i : Nat) (bs : List Byte) (h : s.frameBuf.wf = true) :
    (s.memWrite i bs).frameBuf.wf = true := Memory.wf_writeBytes _ _ _ h

/-- Memory after reset is canonical. -/
theorem State.reset_memory_wf (c : Config) (n : Nat) : (State.resetWith c n).frameBuf.wf = true := rfl

/-- FRAME_BUF after a whole-frame write (R22, R235): byte `i` of the bytes. -/
theorem State.frameByte_memWrite (s : State) (bs : List Byte) (hb : bs.length = frameSize) (i : Nat) (hi : i < frameSize) :
    (s.memWrite 0 bs).frameByte i = byteOf bs i := by
  have : i < bs.length := by omega
  simp [State.frameByte, State.memWrite, Memory.read_writeBytes, hi, byteOf, this]

theorem State.frameWritten_memWrite (s : State) (bs : List Byte) (hb : bs.length = frameSize) (i : Nat) (hi : i < frameSize) :
    ((s.memWrite 0 bs).frameBuf.read i).isSome = true := by
  have : i < bs.length := by omega
  simp [State.memWrite, Memory.read_writeBytes, hi, this]

end Sys2Proof.Machine
end

