-- ==== Sys2Proof/Laws/State.lean ====
section
/-! SUPPORT. One lemma per field per update of State, so that no later proof unfolds a record update. -/

namespace Sys2Proof.Machine

variable (s : State)

/-! emit appends one event (R14, R33). -/

@[simp] theorem State.emit_cfg (e : Event) : (s.emit e).cfg = s.cfg := rfl
@[simp] theorem State.emit_frameBuf (e : Event) : (s.emit e).frameBuf = s.frameBuf := rfl
@[simp] theorem State.emit_crcAcc (e : Event) : (s.emit e).crcAcc = s.crcAcc := rfl
@[simp] theorem State.emit_phase (e : Event) : (s.emit e).phase = s.phase := rfl
@[simp] theorem State.emit_chIdx (e : Event) : (s.emit e).chIdx = s.chIdx := rfl
@[simp] theorem State.emit_lifecycle (e : Event) : (s.emit e).lifecycle = s.lifecycle := rfl
@[simp] theorem State.emit_store (e : Event) : (s.emit e).store = s.store := rfl
@[simp] theorem State.emit_pending (e : Event) : (s.emit e).pending = s.pending := rfl
@[simp] theorem State.emit_srcOpen (e : Event) : (s.emit e).srcOpen = s.srcOpen := rfl
@[simp] theorem State.emit_cancelReq (e : Event) : (s.emit e).cancelReq = s.cancelReq := rfl
@[simp] theorem State.emit_reports (e : Event) : (s.emit e).reports = s.reports ++ [e] := rfl
@[simp] theorem State.emit_result (e : Event) : (s.emit e).result = s.result := rfl
@[simp] theorem State.emit_schedule (e : Event) : (s.emit e).schedule = s.schedule := rfl
@[simp] theorem State.emit_answers (e : Event) : (s.emit e).answers = s.answers := rfl
@[simp] theorem State.emit_epoch (e : Event) : (s.emit e).epoch = s.epoch := rfl
@[simp] theorem State.emit_drawCount (e : Event) : (s.emit e).drawCount = s.drawCount := rfl
@[simp] theorem State.emit_moveCount (e : Event) : (s.emit e).moveCount = s.moveCount := rfl

/-! reply sets the model's own result (log 8). -/

@[simp] theorem State.reply_cfg (r : Result) : (s.reply r).cfg = s.cfg := rfl
@[simp] theorem State.reply_frameBuf (r : Result) : (s.reply r).frameBuf = s.frameBuf := rfl
@[simp] theorem State.reply_crcAcc (r : Result) : (s.reply r).crcAcc = s.crcAcc := rfl
@[simp] theorem State.reply_phase (r : Result) : (s.reply r).phase = s.phase := rfl
@[simp] theorem State.reply_chIdx (r : Result) : (s.reply r).chIdx = s.chIdx := rfl
@[simp] theorem State.reply_lifecycle (r : Result) : (s.reply r).lifecycle = s.lifecycle := rfl
@[simp] theorem State.reply_store (r : Result) : (s.reply r).store = s.store := rfl
@[simp] theorem State.reply_pending (r : Result) : (s.reply r).pending = s.pending := rfl
@[simp] theorem State.reply_srcOpen (r : Result) : (s.reply r).srcOpen = s.srcOpen := rfl
@[simp] theorem State.reply_cancelReq (r : Result) : (s.reply r).cancelReq = s.cancelReq := rfl
@[simp] theorem State.reply_reports (r : Result) : (s.reply r).reports = s.reports := rfl
@[simp] theorem State.reply_result (r : Result) : (s.reply r).result = r := rfl
@[simp] theorem State.reply_schedule (r : Result) : (s.reply r).schedule = s.schedule := rfl
@[simp] theorem State.reply_answers (r : Result) : (s.reply r).answers = s.answers := rfl
@[simp] theorem State.reply_epoch (r : Result) : (s.reply r).epoch = s.epoch := rfl
@[simp] theorem State.reply_drawCount (r : Result) : (s.reply r).drawCount = s.drawCount := rfl
@[simp] theorem State.reply_moveCount (r : Result) : (s.reply r).moveCount = s.moveCount := rfl

/-! A rejection (R263). -/

@[simp] theorem State.reject_cfg (e : Event) : (s.reject e).cfg = s.cfg := rfl
@[simp] theorem State.reject_frameBuf (e : Event) : (s.reject e).frameBuf = s.frameBuf := rfl
@[simp] theorem State.reject_crcAcc (e : Event) : (s.reject e).crcAcc = s.crcAcc := rfl
@[simp] theorem State.reject_phase (e : Event) : (s.reject e).phase = s.phase := rfl
@[simp] theorem State.reject_chIdx (e : Event) : (s.reject e).chIdx = s.chIdx := rfl
@[simp] theorem State.reject_lifecycle (e : Event) : (s.reject e).lifecycle = s.lifecycle := rfl
@[simp] theorem State.reject_store (e : Event) : (s.reject e).store = s.store := rfl
@[simp] theorem State.reject_pending (e : Event) : (s.reject e).pending = s.pending := rfl
@[simp] theorem State.reject_srcOpen (e : Event) : (s.reject e).srcOpen = s.srcOpen := rfl
@[simp] theorem State.reject_cancelReq (e : Event) : (s.reject e).cancelReq = s.cancelReq := rfl
@[simp] theorem State.reject_reports (e : Event) : (s.reject e).reports = s.reports ++ [e] := rfl
@[simp] theorem State.reject_result (e : Event) : (s.reject e).result = .rejected := rfl
@[simp] theorem State.reject_schedule (e : Event) : (s.reject e).schedule = s.schedule := rfl
@[simp] theorem State.reject_answers (e : Event) : (s.reject e).answers = s.answers := rfl
@[simp] theorem State.reject_epoch (e : Event) : (s.reject e).epoch = s.epoch := rfl
@[simp] theorem State.reject_drawCount (e : Event) : (s.reject e).drawCount = s.drawCount := rfl
@[simp] theorem State.reject_moveCount (e : Event) : (s.reject e).moveCount = s.moveCount := rfl

/-! A transport failure (R243). -/

@[simp] theorem State.onFail_cfg (op : TransportOp) : (s.onFail op).cfg = s.cfg := rfl
@[simp] theorem State.onFail_frameBuf (op : TransportOp) : (s.onFail op).frameBuf = s.frameBuf := rfl
@[simp] theorem State.onFail_crcAcc (op : TransportOp) : (s.onFail op).crcAcc = s.crcAcc := rfl
@[simp] theorem State.onFail_phase (op : TransportOp) : (s.onFail op).phase = s.phase := rfl
@[simp] theorem State.onFail_chIdx (op : TransportOp) : (s.onFail op).chIdx = s.chIdx := rfl
@[simp] theorem State.onFail_lifecycle (op : TransportOp) : (s.onFail op).lifecycle = .failed := rfl
@[simp] theorem State.onFail_store (op : TransportOp) : (s.onFail op).store = s.store := rfl
@[simp] theorem State.onFail_pending (op : TransportOp) : (s.onFail op).pending = s.pending := rfl
@[simp] theorem State.onFail_srcOpen (op : TransportOp) : (s.onFail op).srcOpen = s.srcOpen := rfl
@[simp] theorem State.onFail_cancelReq (op : TransportOp) : (s.onFail op).cancelReq = s.cancelReq := rfl
@[simp] theorem State.onFail_reports (op : TransportOp) : (s.onFail op).reports = s.reports ++ [.transportFailure op] := rfl
@[simp] theorem State.onFail_result (op : TransportOp) : (s.onFail op).result = .failed := rfl
@[simp] theorem State.onFail_schedule (op : TransportOp) : (s.onFail op).schedule = s.schedule := rfl
@[simp] theorem State.onFail_answers (op : TransportOp) : (s.onFail op).answers = s.answers := rfl
@[simp] theorem State.onFail_epoch (op : TransportOp) : (s.onFail op).epoch = s.epoch := rfl
@[simp] theorem State.onFail_drawCount (op : TransportOp) : (s.onFail op).drawCount = s.drawCount := rfl
@[simp] theorem State.onFail_moveCount (op : TransportOp) : (s.onFail op).moveCount = s.moveCount := rfl

/-! A FRAME_BUF write (R13). -/

@[simp] theorem State.memWrite_cfg (i : Nat) (bs : List Byte) : (s.memWrite i bs).cfg = s.cfg := rfl
@[simp] theorem State.memWrite_frameBuf (i : Nat) (bs : List Byte) : (s.memWrite i bs).frameBuf = s.frameBuf.writeBytes i bs := rfl
@[simp] theorem State.memWrite_crcAcc (i : Nat) (bs : List Byte) : (s.memWrite i bs).crcAcc = s.crcAcc := rfl
@[simp] theorem State.memWrite_phase (i : Nat) (bs : List Byte) : (s.memWrite i bs).phase = s.phase := rfl
@[simp] theorem State.memWrite_chIdx (i : Nat) (bs : List Byte) : (s.memWrite i bs).chIdx = s.chIdx := rfl
@[simp] theorem State.memWrite_lifecycle (i : Nat) (bs : List Byte) : (s.memWrite i bs).lifecycle = s.lifecycle := rfl
@[simp] theorem State.memWrite_store (i : Nat) (bs : List Byte) : (s.memWrite i bs).store = s.store := rfl
@[simp] theorem State.memWrite_pending (i : Nat) (bs : List Byte) : (s.memWrite i bs).pending = s.pending := rfl
@[simp] theorem State.memWrite_srcOpen (i : Nat) (bs : List Byte) : (s.memWrite i bs).srcOpen = s.srcOpen := rfl
@[simp] theorem State.memWrite_cancelReq (i : Nat) (bs : List Byte) : (s.memWrite i bs).cancelReq = s.cancelReq := rfl
@[simp] theorem State.memWrite_reports (i : Nat) (bs : List Byte) : (s.memWrite i bs).reports = s.reports := rfl
@[simp] theorem State.memWrite_result (i : Nat) (bs : List Byte) : (s.memWrite i bs).result = s.result := rfl
@[simp] theorem State.memWrite_schedule (i : Nat) (bs : List Byte) : (s.memWrite i bs).schedule = s.schedule := rfl
@[simp] theorem State.memWrite_answers (i : Nat) (bs : List Byte) : (s.memWrite i bs).answers = s.answers := rfl
@[simp] theorem State.memWrite_epoch (i : Nat) (bs : List Byte) : (s.memWrite i bs).epoch = s.epoch := rfl
@[simp] theorem State.memWrite_drawCount (i : Nat) (bs : List Byte) : (s.memWrite i bs).drawCount = s.drawCount := rfl
@[simp] theorem State.memWrite_moveCount (i : Nat) (bs : List Byte) : (s.memWrite i bs).moveCount = s.moveCount := rfl

/-! The Host's cancel request (R31). -/

@[simp] theorem State.requestCancel_cfg : (s.requestCancel).cfg = s.cfg := rfl
@[simp] theorem State.requestCancel_frameBuf : (s.requestCancel).frameBuf = s.frameBuf := rfl
@[simp] theorem State.requestCancel_crcAcc : (s.requestCancel).crcAcc = s.crcAcc := rfl
@[simp] theorem State.requestCancel_phase : (s.requestCancel).phase = s.phase := rfl
@[simp] theorem State.requestCancel_chIdx : (s.requestCancel).chIdx = s.chIdx := rfl
@[simp] theorem State.requestCancel_lifecycle : (s.requestCancel).lifecycle = s.lifecycle := rfl
@[simp] theorem State.requestCancel_store : (s.requestCancel).store = s.store := rfl
@[simp] theorem State.requestCancel_pending : (s.requestCancel).pending = s.pending := rfl
@[simp] theorem State.requestCancel_srcOpen : (s.requestCancel).srcOpen = s.srcOpen := rfl
@[simp] theorem State.requestCancel_cancelReq : (s.requestCancel).cancelReq = true := rfl
@[simp] theorem State.requestCancel_reports : (s.requestCancel).reports = s.reports := rfl
@[simp] theorem State.requestCancel_result : (s.requestCancel).result = s.result := rfl
@[simp] theorem State.requestCancel_schedule : (s.requestCancel).schedule = s.schedule := rfl
@[simp] theorem State.requestCancel_answers : (s.requestCancel).answers = s.answers := rfl
@[simp] theorem State.requestCancel_epoch : (s.requestCancel).epoch = s.epoch := rfl
@[simp] theorem State.requestCancel_drawCount : (s.requestCancel).drawCount = s.drawCount := rfl
@[simp] theorem State.requestCancel_moveCount : (s.requestCancel).moveCount = s.moveCount := rfl

/-! ACCEPT (R136). -/

@[simp] theorem acceptFrame_cfg : (acceptFrame s).cfg = s.cfg := rfl
@[simp] theorem acceptFrame_frameBuf : (acceptFrame s).frameBuf = s.frameBuf := rfl
@[simp] theorem acceptFrame_crcAcc : (acceptFrame s).crcAcc = s.crcAcc := rfl
@[simp] theorem acceptFrame_phase : (acceptFrame s).phase = .decode := rfl
@[simp] theorem acceptFrame_chIdx : (acceptFrame s).chIdx = 0 := rfl
@[simp] theorem acceptFrame_lifecycle : (acceptFrame s).lifecycle = s.lifecycle := rfl
@[simp] theorem acceptFrame_store : (acceptFrame s).store = s.store := rfl
@[simp] theorem acceptFrame_pending : (acceptFrame s).pending = s.pending := rfl
@[simp] theorem acceptFrame_srcOpen : (acceptFrame s).srcOpen = s.srcOpen := rfl
@[simp] theorem acceptFrame_cancelReq : (acceptFrame s).cancelReq = s.cancelReq := rfl
@[simp] theorem acceptFrame_reports : (acceptFrame s).reports = s.reports ++ [.frameAccept] := rfl
@[simp] theorem acceptFrame_result : (acceptFrame s).result = .done := rfl
@[simp] theorem acceptFrame_schedule : (acceptFrame s).schedule = s.schedule := rfl
@[simp] theorem acceptFrame_answers : (acceptFrame s).answers = s.answers := rfl
@[simp] theorem acceptFrame_epoch : (acceptFrame s).epoch = s.epoch := rfl
@[simp] theorem acceptFrame_drawCount : (acceptFrame s).drawCount = s.drawCount := rfl
@[simp] theorem acceptFrame_moveCount : (acceptFrame s).moveCount = s.moveCount := rfl

/-! STORE_UPDATE (R203). -/

@[simp] theorem storeUpdate_cfg (v cur : Half) (tc : Word) : (storeUpdate v cur tc s).cfg = s.cfg := rfl
@[simp] theorem storeUpdate_frameBuf (v cur : Half) (tc : Word) : (storeUpdate v cur tc s).frameBuf = s.frameBuf := rfl
@[simp] theorem storeUpdate_crcAcc (v cur : Half) (tc : Word) : (storeUpdate v cur tc s).crcAcc = s.crcAcc := rfl
@[simp] theorem storeUpdate_phase (v cur : Half) (tc : Word) : (storeUpdate v cur tc s).phase = s.phase := rfl
@[simp] theorem storeUpdate_chIdx (v cur : Half) (tc : Word) : (storeUpdate v cur tc s).chIdx = s.chIdx := rfl
@[simp] theorem storeUpdate_lifecycle (v cur : Half) (tc : Word) : (storeUpdate v cur tc s).lifecycle = s.lifecycle := rfl
@[simp] theorem storeUpdate_store (v cur : Half) (tc : Word) : (storeUpdate v cur tc s).store = ⟨true, v, cur, tc⟩ := rfl
@[simp] theorem storeUpdate_pending (v cur : Half) (tc : Word) : (storeUpdate v cur tc s).pending = s.pending := rfl
@[simp] theorem storeUpdate_srcOpen (v cur : Half) (tc : Word) : (storeUpdate v cur tc s).srcOpen = s.srcOpen := rfl
@[simp] theorem storeUpdate_cancelReq (v cur : Half) (tc : Word) : (storeUpdate v cur tc s).cancelReq = s.cancelReq := rfl
@[simp] theorem storeUpdate_reports (v cur : Half) (tc : Word) : (storeUpdate v cur tc s).reports = s.reports ++ [.storeUpdate v cur tc] := rfl
@[simp] theorem storeUpdate_result (v cur : Half) (tc : Word) : (storeUpdate v cur tc s).result = s.result := rfl
@[simp] theorem storeUpdate_schedule (v cur : Half) (tc : Word) : (storeUpdate v cur tc s).schedule = s.schedule := rfl
@[simp] theorem storeUpdate_answers (v cur : Half) (tc : Word) : (storeUpdate v cur tc s).answers = s.answers := rfl
@[simp] theorem storeUpdate_epoch (v cur : Half) (tc : Word) : (storeUpdate v cur tc s).epoch = s.epoch := rfl
@[simp] theorem storeUpdate_drawCount (v cur : Half) (tc : Word) : (storeUpdate v cur tc s).drawCount = s.drawCount := rfl
@[simp] theorem storeUpdate_moveCount (v cur : Half) (tc : Word) : (storeUpdate v cur tc s).moveCount = s.moveCount := rfl

/-! BS.close (R239). -/

@[simp] theorem bsClose_cfg : (bsClose s).cfg = s.cfg := rfl
@[simp] theorem bsClose_frameBuf : (bsClose s).frameBuf = s.frameBuf := rfl
@[simp] theorem bsClose_crcAcc : (bsClose s).crcAcc = s.crcAcc := rfl
@[simp] theorem bsClose_phase : (bsClose s).phase = s.phase := rfl
@[simp] theorem bsClose_chIdx : (bsClose s).chIdx = s.chIdx := rfl
@[simp] theorem bsClose_lifecycle : (bsClose s).lifecycle = s.lifecycle := rfl
@[simp] theorem bsClose_store : (bsClose s).store = s.store := rfl
@[simp] theorem bsClose_pending : (bsClose s).pending = s.pending := rfl
@[simp] theorem bsClose_srcOpen : (bsClose s).srcOpen = false := rfl
@[simp] theorem bsClose_cancelReq : (bsClose s).cancelReq = s.cancelReq := rfl
@[simp] theorem bsClose_reports : (bsClose s).reports = s.reports := rfl
@[simp] theorem bsClose_result : (bsClose s).result = s.result := rfl
@[simp] theorem bsClose_schedule : (bsClose s).schedule = s.schedule := rfl
@[simp] theorem bsClose_answers : (bsClose s).answers = s.answers := rfl
@[simp] theorem bsClose_epoch : (bsClose s).epoch = s.epoch := rfl
@[simp] theorem bsClose_drawCount : (bsClose s).drawCount = s.drawCount := rfl
@[simp] theorem bsClose_moveCount : (bsClose s).moveCount = s.moveCount := rfl

/-! CANCEL (R242). -/

@[simp] theorem cancelRun_cfg : (cancelRun s).cfg = s.cfg := by unfold cancelRun; split <;> rfl
@[simp] theorem cancelRun_frameBuf : (cancelRun s).frameBuf = s.frameBuf := by unfold cancelRun; split <;> rfl
@[simp] theorem cancelRun_crcAcc : (cancelRun s).crcAcc = s.crcAcc := by unfold cancelRun; split <;> rfl
@[simp] theorem cancelRun_phase : (cancelRun s).phase = s.phase := by unfold cancelRun; split <;> rfl
@[simp] theorem cancelRun_chIdx : (cancelRun s).chIdx = s.chIdx := by unfold cancelRun; split <;> rfl
@[simp] theorem cancelRun_lifecycle : (cancelRun s).lifecycle = .stopped := by unfold cancelRun; split <;> rfl
@[simp] theorem cancelRun_store : (cancelRun s).store = s.store := by unfold cancelRun; split <;> rfl
@[simp] theorem cancelRun_pending : (cancelRun s).pending = s.pending := by unfold cancelRun; split <;> rfl
@[simp] theorem cancelRun_srcOpen : (cancelRun s).srcOpen = if s.lifecycle = .running then false else s.srcOpen := by unfold cancelRun; split <;> rfl
@[simp] theorem cancelRun_cancelReq : (cancelRun s).cancelReq = false := by unfold cancelRun; split <;> rfl
@[simp] theorem cancelRun_reports : (cancelRun s).reports = s.reports ++ [.stopped] := by unfold cancelRun; split <;> rfl
@[simp] theorem cancelRun_result : (cancelRun s).result = .done := by unfold cancelRun; split <;> rfl
@[simp] theorem cancelRun_schedule : (cancelRun s).schedule = s.schedule := by unfold cancelRun; split <;> rfl
@[simp] theorem cancelRun_answers : (cancelRun s).answers = s.answers := by unfold cancelRun; split <;> rfl
@[simp] theorem cancelRun_epoch : (cancelRun s).epoch = s.epoch := by unfold cancelRun; split <;> rfl
@[simp] theorem cancelRun_drawCount : (cancelRun s).drawCount = s.drawCount := by unfold cancelRun; split <;> rfl
@[simp] theorem cancelRun_moveCount : (cancelRun s).moveCount = s.moveCount := by unfold cancelRun; split <;> rfl

/-! The Host's reset (R290). -/

@[simp] theorem State.hostReset_cfg : (s.hostReset).cfg = s.cfg := rfl
@[simp] theorem State.hostReset_frameBuf : (s.hostReset).frameBuf = [] := rfl
@[simp] theorem State.hostReset_crcAcc : (s.hostReset).crcAcc = Config.resetCrcAcc (s.epoch + 1) := rfl
@[simp] theorem State.hostReset_phase : (s.hostReset).phase = .poll := rfl
@[simp] theorem State.hostReset_chIdx : (s.hostReset).chIdx = Config.resetChIdx (s.epoch + 1) := rfl
@[simp] theorem State.hostReset_lifecycle : (s.hostReset).lifecycle = .unopened := rfl
@[simp] theorem State.hostReset_store : (s.hostReset).store = ⟨false, Config.resetStoreVoltage (s.epoch + 1), Config.resetStoreCurrent (s.epoch + 1), Config.resetStoreTemp (s.epoch + 1)⟩ := rfl
@[simp] theorem State.hostReset_pending : (s.hostReset).pending = [] := rfl
@[simp] theorem State.hostReset_srcOpen : (s.hostReset).srcOpen = false := rfl
@[simp] theorem State.hostReset_cancelReq : (s.hostReset).cancelReq = false := rfl
@[simp] theorem State.hostReset_reports : (s.hostReset).reports = [] := rfl
@[simp] theorem State.hostReset_result : (s.hostReset).result = .none := rfl
@[simp] theorem State.hostReset_schedule : (s.hostReset).schedule = s.schedule := rfl
@[simp] theorem State.hostReset_answers : (s.hostReset).answers = s.answers := rfl
@[simp] theorem State.hostReset_epoch : (s.hostReset).epoch = s.epoch + 1 := rfl
@[simp] theorem State.hostReset_drawCount : (s.hostReset).drawCount = s.drawCount := rfl
@[simp] theorem State.hostReset_moveCount : (s.hostReset).moveCount = s.moveCount := rfl

end Sys2Proof.Machine
end

