-- ==== Sys2Proof/Laws/Environment.lean ====
section
/-! SUPPORT. What the environment's draws and the byte-source calls can do, said once. -/

namespace Sys2Proof.Machine

/-- A draw changes nothing but the environment's own fields. -/
theorem State.nextAnswer_frame (s : State) :
    ∃ as n, s.nextAnswer.2 = { s with answers := as, drawCount := n } := by
  unfold State.nextAnswer
  split
  · exact ⟨_, s.drawCount, rfl⟩
  · exact ⟨s.answers, _, rfl⟩

/-- Taking a move changes nothing but the environment's own fields. -/
theorem State.nextMove_frame (s : State) :
    ∃ ms n, s.nextMove.2 = { s with schedule := ms, moveCount := n } := by
  unfold State.nextMove
  split
  · exact ⟨_, s.moveCount, rfl⟩
  · exact ⟨s.schedule, _, rfl⟩

/-- A byte-source call either succeeds or fails with PENDING drawn (R230, R243). -/
theorem bsAvailable_cases (s : State) :
    (∃ k as n, s.nextAnswer.1 = .serve k ∧ bsAvailable s = .ok s.pending.length { s with answers := as, drawCount := n })
    ∨ (∃ left as n, s.nextAnswer.1 = .fail left
        ∧ bsAvailable s = .failed { s with pending := left, answers := as, drawCount := n }) := by
  obtain ⟨as, n, h⟩ := s.nextAnswer_frame
  unfold bsAvailable
  rcases hn : s.nextAnswer with ⟨a, s1⟩
  rw [hn] at h
  cases a with
  | serve k => exact .inl ⟨k, as, n, rfl, by subst h; rfl⟩
  | fail left => exact .inr ⟨left, as, n, rfl, by subst h; rfl⟩

theorem bsDiscard_cases (s : State) :
    (∃ k as n, s.nextAnswer.1 = .serve k ∧ bsDiscard s = .ok () { s with pending := [], answers := as, drawCount := n })
    ∨ (∃ left as n, s.nextAnswer.1 = .fail left
        ∧ bsDiscard s = .failed { s with pending := left, answers := as, drawCount := n }) := by
  obtain ⟨as, n, h⟩ := s.nextAnswer_frame
  unfold bsDiscard
  rcases hn : s.nextAnswer with ⟨a, s1⟩
  rw [hn] at h
  cases a with
  | serve k => exact .inl ⟨k, as, n, rfl, by subst h; rfl⟩
  | fail left => exact .inr ⟨left, as, n, rfl, by subst h; rfl⟩

theorem bsRead_cases (m : Nat) (s : State) :
    (∃ d as n, s.nextAnswer.1 = .serve d ∧
      bsRead m s = .ok (s.pending.take (readCount s.cfg.bsConforming d m s.pending.length))
        { s with pending := s.pending.drop (readCount s.cfg.bsConforming d m s.pending.length), answers := as, drawCount := n })
    ∨ (∃ left as n, s.nextAnswer.1 = .fail left
        ∧ bsRead m s = .failed { s with pending := left, answers := as, drawCount := n }) := by
  obtain ⟨as, n, h⟩ := s.nextAnswer_frame
  unfold bsRead
  rcases hn : s.nextAnswer with ⟨a, s1⟩
  rw [hn] at h
  cases a with
  | serve k => exact .inl ⟨k, as, n, rfl, by subst h; rfl⟩
  | fail left => exact .inr ⟨left, as, n, rfl, by subst h; rfl⟩

/-- The state after a draw is the old one but for the environment's own fields. -/
theorem State.nextAnswer_state {s s1 : State} {a : Answer} (h : s.nextAnswer = (a, s1)) :
    ∃ as n, s1 = { s with answers := as, drawCount := n } := by
  obtain ⟨as, n, e⟩ := s.nextAnswer_frame
  rw [h] at e
  exact ⟨as, n, e⟩

theorem bsAvailable_serve {s s1 : State} {d : Nat} (h : s.nextAnswer = (.serve d, s1)) :
    bsAvailable s = .ok s1.pending.length s1 := by
  unfold bsAvailable
  rw [h]

theorem bsDiscard_serve {s s1 : State} {d : Nat} (h : s.nextAnswer = (.serve d, s1)) :
    bsDiscard s = .ok () { s1 with pending := [] } := by
  unfold bsDiscard
  rw [h]

theorem bsRead_serve {s s1 : State} {d n : Nat} (h : s.nextAnswer = (.serve d, s1)) :
    bsRead n s = .ok (s1.pending.take (readCount s1.cfg.bsConforming d n s1.pending.length))
      { s1 with pending := s1.pending.drop (readCount s1.cfg.bsConforming d n s1.pending.length) } := by
  unfold bsRead
  rw [h]

theorem bsAvailable_fail {s s1 : State} {left : List Byte} (h : s.nextAnswer = (.fail left, s1)) :
    bsAvailable s = .failed { s1 with pending := left } := by
  unfold bsAvailable
  rw [h]

theorem bsDiscard_fail {s s1 : State} {left : List Byte} (h : s.nextAnswer = (.fail left, s1)) :
    bsDiscard s = .failed { s1 with pending := left } := by
  unfold bsDiscard
  rw [h]

theorem bsRead_fail {s s1 : State} {left : List Byte} {n : Nat} (h : s.nextAnswer = (.fail left, s1)) :
    bsRead n s = .failed { s1 with pending := left } := by
  unfold bsRead
  rw [h]

theorem readCount_le (c : Bool) (d m p : Nat) : readCount c d m p ≤ min m p := by
  unfold readCount; split <;> omega

/-- One step, by the move taken (R7, R244, R247). -/
theorem step_eq (s : State) :
    step s = match s.nextMove.2.selectFor s.nextMove.1 with
      | .run i => exec i s.nextMove.2
      | .requestCancel => .next s.nextMove.2.requestCancel
      | .reset => .next s.nextMove.2.hostReset
      | .idle => .next s.nextMove.2 := by
  simp only [step, State.select]
  cases s.nextMove.2.selectFor s.nextMove.1 <;> rfl

/-- The enabling table (R244), read from a selected core step. -/
theorem State.enabledStep_cases {s : State} {i : Instr} (h : s.enabledStep = some i) :
    (i = .cancel ∧ s.cancelEnabled = true) ∨ (i = .pollCycle ∧ s.pollEnabled = true)
      ∨ (i = .decodeChannel ∧ s.decodeEnabled = true) := by
  unfold State.enabledStep at h
  split_ifs at h with h1 h2 h3 <;> cases h
  · exact .inl ⟨rfl, h1⟩
  · exact .inr (.inl ⟨rfl, h2⟩)
  · exact .inr (.inr ⟨rfl, h3⟩)

/-- What one step can do (R244, R247): the eight ways a step goes, each with the state whose move was taken. -/
theorem step_cases {s t : State} (h : step s = .next t) :
    ∃ ms n, let s1 : State := { s with schedule := ms, moveCount := n }
      (s1.cancelEnabled = true ∧ t = cancelRun s1) ∨ (s1.pollEnabled = true ∧ t = pollCycle s1)
      ∨ (s1.decodeEnabled = true ∧ t = decodeChannel s1)
      ∨ (∃ r, exec (.start r) s1 = .next t) ∨ (∃ bs, exec (.arrive bs) s1 = .next t)
      ∨ exec .storeRead s1 = .next t ∨ t = s1.requestCancel ∨ t = s1.hostReset ∨ t = s1 := by
  obtain ⟨ms, n, hs⟩ := s.nextMove_frame
  refine ⟨ms, n, ?_⟩
  rw [step_eq, hs] at h
  intro s1
  cases hm : s.nextMove.1 with
  | core =>
    simp only [hm, State.selectFor] at h
    cases he : s1.enabledStep with
    | none => simp only [s1] at he; rw [he] at h; cases h; simp [s1]
    | some i =>
      simp only [s1] at he
      rw [he] at h
      rcases State.enabledStep_cases he with ⟨rfl, hi⟩ | ⟨rfl, hi⟩ | ⟨rfl, hi⟩
      · simp only [exec, execCancel, hi, if_true] at h; cases h; exact .inl ⟨hi, rfl⟩
      · simp only [exec, execPollCycle, hi, if_true] at h; cases h; exact .inr (.inl ⟨hi, rfl⟩)
      · simp only [exec, execDecodeChannel, hi, if_true] at h; cases h; exact .inr (.inr (.inl ⟨hi, rfl⟩))
  | start r => simp only [hm, State.selectFor] at h; exact .inr (.inr (.inr (.inl ⟨r, h⟩)))
  | arrive bs => simp only [hm, State.selectFor] at h; exact .inr (.inr (.inr (.inr (.inl ⟨bs, h⟩))))
  | requestCancel => simp only [hm, State.selectFor] at h; cases h; simp [s1]
  | storeRead => simp only [hm, State.selectFor] at h; exact .inr (.inr (.inr (.inr (.inr (.inl h)))))
  | reset => simp only [hm, State.selectFor] at h; cases h; simp [s1]

end Sys2Proof.Machine
end

