-- ==== Sys2Proof/Laws/PerInstr.lean ====
section
/-! SUPPORT. One lemma per constructor of Instr: the length of an instruction's encoding (R80; the internal operations have none). -/

namespace Sys2Proof.Laws.EncodedLength

/-- If an instruction has an encoding, in any layout and for any HEAD_MARKER, it is FRAME_SIZE bytes long (R80). -/
def Statement (i : Instr) : Prop :=
  ∀ (h : Byte) (lay : Layout) (bytes : List Byte), encode h lay i = some bytes → bytes.length = frameSize

theorem telemetryFrame (f : Frame) : Statement (.telemetryFrame f) := by
  intro h lay bytes e
  cases e
  exact encodeFrame_length h lay f

theorem crcStep (acc : Half) (b : Byte) : Statement (.crcStep acc b) := by
  intro _ _ _ e
  cases e

theorem crcCompute (bytes : List Byte) : Statement (.crcCompute bytes) := by
  intro _ _ _ e
  cases e

theorem frameCrc : Statement .frameCrc := by
  intro _ _ _ e
  cases e

theorem parseHeader : Statement .parseHeader := by
  intro _ _ _ e
  cases e

theorem headerCheck (head length version command : Byte) : Statement (.headerCheck head length version command) := by
  intro _ _ _ e
  cases e

theorem parseChecksum : Statement .parseChecksum := by
  intro _ _ _ e
  cases e

theorem checksumCheck (rxCrc : Half) : Statement (.checksumCheck rxCrc) := by
  intro _ _ _ e
  cases e

theorem validateFrame : Statement .validateFrame := by
  intro _ _ _ e
  cases e

theorem accept : Statement .accept := by
  intro _ _ _ e
  cases e

theorem tempScan (raw : Byte) : Statement (.tempScan raw) := by
  intro _ _ _ e
  cases e

theorem tempDecode (raw : Byte) : Statement (.tempDecode raw) := by
  intro _ _ _ e
  cases e

theorem tempMos (tMos : Byte) : Statement (.tempMos tMos) := by
  intro _ _ _ e
  cases e

theorem tempCap (tCap : Byte) : Statement (.tempCap tCap) := by
  intro _ _ _ e
  cases e

theorem scaleCurrent (curr : Half) : Statement (.scaleCurrent curr) := by
  intro _ _ _ e
  cases e

theorem scalePhaseCurrent (phCurr : Half) : Statement (.scalePhaseCurrent phCurr) := by
  intro _ _ _ e
  cases e

theorem scaleVoltage (volt : Half) : Statement (.scaleVoltage volt) := by
  intro _ _ _ e
  cases e

theorem scaleThrottleIn (thrIn : Half) : Statement (.scaleThrottleIn thrIn) := by
  intro _ _ _ e
  cases e

theorem scaleThrottleOut (thrOut : Half) : Statement (.scaleThrottleOut thrOut) := by
  intro _ _ _ e
  cases e

theorem scaleRpm (erpm : Half) : Statement (.scaleRpm erpm) := by
  intro _ _ _ e
  cases e

theorem scaleTempCenti (mosT : Half) : Statement (.scaleTempCenti mosT) := by
  intro _ _ _ e
  cases e

theorem parseChannel (k : Fin 8) : Statement (.parseChannel k) := by
  intro _ _ _ e
  cases e

theorem gate (f : Channel) (rpm : Word) : Statement (.gate f rpm) := by
  intro _ _ _ e
  cases e

theorem decodeChannel : Statement .decodeChannel := by
  intro _ _ _ e
  cases e

theorem storeUpdate (v : Half) (cur : Half) (tc : Word) : Statement (.storeUpdate v cur tc) := by
  intro _ _ _ e
  cases e

theorem report (slot : Fin 8) (f : Channel) (rpm : Word) (cur v mos cap ph thIn thOut : Half) :
    Statement (.report slot f rpm cur v mos cap ph thIn thOut) := by
  intro _ _ _ e
  cases e

theorem storeRead : Statement .storeRead := by
  intro _ _ _ e
  cases e

theorem bsAvailable : Statement .bsAvailable := by
  intro _ _ _ e
  cases e

theorem pollCycle : Statement .pollCycle := by
  intro _ _ _ e
  cases e

theorem resync (n : Nat) : Statement (.resync n) := by
  intro _ _ _ e
  cases e

theorem wait (n : Nat) : Statement (.wait n) := by
  intro _ _ _ e
  cases e

theorem frameRead : Statement .frameRead := by
  intro _ _ _ e
  cases e

theorem bsRead (n : Nat) : Statement (.bsRead n) := by
  intro _ _ _ e
  cases e

theorem shortRead (k : Nat) : Statement (.shortRead k) := by
  intro _ _ _ e
  cases e

theorem bsDiscard : Statement .bsDiscard := by
  intro _ _ _ e
  cases e

theorem bsClose : Statement .bsClose := by
  intro _ _ _ e
  cases e

theorem arrive (bytes : List Byte) : Statement (.arrive bytes) := by
  intro _ _ _ e
  cases e

theorem start (r : StartResult) : Statement (.start r) := by
  intro _ _ _ e
  cases e

theorem cancel : Statement .cancel := by
  intro _ _ _ e
  cases e

theorem transportFailure (op : TransportOp) : Statement (.transportFailure op) := by
  intro _ _ _ e
  cases e

end Sys2Proof.Laws.EncodedLength
end

