-- ==== Sys2Proof/Laws/Reports.lean ====
section
/-! SUPPORT. The measures of the report stream over an appended event list (R33). -/

namespace Sys2Proof.Machine

theorem lastStored_append (a b : List Event) : lastStored (a ++ b) = (lastStored b).or (lastStored a) := by
  induction a with
  | nil => simp [lastStored]
  | cons e es ih =>
    simp only [List.cons_append, lastStored, ih]
    cases lastStored b <;> simp

theorem storeUpdateCount_append (a b : List Event) :
    storeUpdateCount (a ++ b) = storeUpdateCount a + storeUpdateCount b := by
  induction a with
  | nil => simp [storeUpdateCount]
  | cons e es ih => cases e <;> simp [storeUpdateCount, ih]; omega

theorem channelReportCount_append (a b : List Event) :
    channelReportCount (a ++ b) = channelReportCount a + channelReportCount b := by
  induction a with
  | nil => simp [channelReportCount]
  | cons e es ih => cases e <;> simp [channelReportCount, ih]; omega

end Sys2Proof.Machine
end

