-- ==== Sys2Proof/Laws/Roms.lean ====
section
/-! SUPPORT. The ROMs' contents (R110, R162). -/

namespace Sys2Proof

/-- The 256 listed values are the generated ones (R110). -/
theorem crcRomContents_getD (i : Byte) (d : Half) : crcRomContents.getD i.toNat d = crcRomEntry i := by
  have h : ∀ n : Fin 256, crcRomContents[(BitVec.ofFin n : Byte).toNat]? = some (crcRomEntry (BitVec.ofFin n)) := by
    decide +kernel
  have hi : crcRomContents[i.toNat]? = some (crcRomEntry i) := h i.toFin
  rw [List.getD_eq_getElem?_getD, hi, Option.getD_some]

theorem crcRomContents_length : crcRomContents.length = 256 := by decide +kernel

theorem tempRomContents_length (t : TempTable) : (tempRomContents t).length = 256 := by simp [tempRomContents]

theorem tempRomContents_getD (t : TempTable) (r : Byte) (d : Half) :
    (tempRomContents t).getD r.toNat d = BitVec.ofInt 16 (tempScan t r) := by
  have h := r.isLt
  simp [tempRomContents, h]

theorem crcShift_xor (a b : Half) : crcShift (a ^^^ b) = crcShift a ^^^ crcShift b := by
  unfold crcShift
  rw [BitVec.msb_xor, BitVec.shiftLeft_xor_distrib]
  cases a.msb <;> cases b.msb <;> simp [BitVec.xor_assoc]
  all_goals ac_rfl

/-- The generator is linear (R110). -/
theorem crcShifts_xor (n : Nat) (a b : Half) : crcShifts n (a ^^^ b) = crcShifts n a ^^^ crcShifts n b := by
  induction n generalizing a b with
  | zero => rfl
  | succ n ih => simp only [crcShifts, crcShift_xor, ih]

/-- A scan's value lies within the table's bounds (R166 W10). -/
theorem tempScan_bound {t : TempTable} (h : TempTable.Legal t) (r : Byte) : -327 ≤ tempScan t r ∧ tempScan t r ≤ 327 := by
  obtain ⟨-, -, -, -, -, -, hmax, -, hb⟩ := h
  unfold tempScan
  split_ifs
  · omega
  · split
    · next e he => exact hb e (List.mem_of_find?_eq_some he)
    · omega

/-- The configuration State.reset describes is legal (R292). -/
theorem Config.configured_legal : Config.Legal Config.configured :=
  ⟨by decide, Config.openTempTable.legal, rfl, rfl⟩

end Sys2Proof
end

