-- ==== Sys2Proof/Laws/Rounding.lean ====
section
/-! SUPPORT. Binary64 rounding to nearest has the two properties that R187's proof uses. -/

namespace Sys2Proof.Machine

theorem roundEven_intCast (z : Int) : roundEven z = z := by
  simp [roundEven]

theorem roundEven_error (q : Rat) : |(roundEven q : Rat) - q| ≤ 1 / 2 := by
  have h0 := Int.floor_le q
  have h1 := Int.lt_floor_add_one q
  unfold roundEven
  rw [abs_le]
  split_ifs <;> push_cast <;> constructor <;> linarith

theorem binary64Spacing_pos (q : Rat) : 0 < binary64Spacing q := zpow_pos (by norm_num) _

theorem binary64Nearest_error (q : Rat) : |binary64Nearest q - q| ≤ binary64Spacing q / 2 := by
  have hu := binary64Spacing_pos q
  have h := roundEven_error (q / binary64Spacing q)
  have e : binary64Nearest q - q = (roundEven (q / binary64Spacing q) - q / binary64Spacing q) * binary64Spacing q := by
    unfold binary64Nearest
    field_simp
  rw [e, abs_mul, abs_of_pos hu]
  nlinarith

/-- In the normal range half the spacing is at most 2^-53 of the number. -/
theorem binary64Spacing_le (q : Rat) (h : 1 / 2 ^ 1022 ≤ |q|) : binary64Spacing q / 2 ≤ |q| / 2 ^ 53 := by
  have hq : 0 < |q| := lt_of_lt_of_le (by positivity) h
  have hl : (-1022 : Int) ≤ Int.log 2 |q| :=
    (Int.zpow_le_iff_le_log one_lt_two hq).1 (by rw [Nat.cast_ofNat, zpow_neg, ← one_div]; exact_mod_cast h)
  have hp := Int.zpow_log_le_self one_lt_two hq
  rw [Nat.cast_ofNat] at hp
  have e : binary64Spacing q / 2 = 2 ^ Int.log 2 |q| / 2 ^ 53 := by
    rw [binary64Spacing, max_eq_left hl, zpow_sub₀ two_ne_zero, show (52 : Int) = (52 : Nat) from rfl, zpow_natCast, div_div, ← pow_succ]
  rw [e]
  gcongr

/-- A multiple of its own spacing is a binary64 number: it stays. -/
theorem binary64Nearest_of_multiple {q : Rat} {k : Int} (h : q = k * binary64Spacing q) : binary64Nearest q = q := by
  have hu := (binary64Spacing_pos q).ne'
  rw [binary64Nearest, (eq_div_iff hu).2 h.symm |>.symm, roundEven_intCast, ← h]

theorem binary64Nearest_int (z : Int) (h : |z| ≤ 2 ^ 53) : binary64Nearest z = z := by
  rcases h.lt_or_eq with h | h
  · have hlog : Int.log 2 |(z : Rat)| ≤ 52 := by
      rcases eq_or_ne z 0 with rfl | hz
      · simp
      have hz' : 0 < |(z : Rat)| := abs_pos.2 (by exact_mod_cast hz)
      have := (Int.lt_zpow_iff_log_lt (R := Rat) one_lt_two hz' (x := 53)).1 (by rw [← Int.cast_abs]; norm_num; exact_mod_cast h)
      omega
    obtain ⟨j, hj⟩ : ∃ j : Nat, max (Int.log 2 |(z : Rat)|) (-1022) - 52 = -(j : Int) :=
      ⟨(52 - max (Int.log 2 |(z : Rat)|) (-1022)).toNat, by omega⟩
    refine binary64Nearest_of_multiple (k := z * 2 ^ j) ?_
    rw [binary64Spacing, hj, zpow_neg, zpow_natCast]
    push_cast
    field_simp
  · have hlog : Int.log 2 |(z : Rat)| = 53 := by
      rw [← Int.cast_abs, h]
      exact (congrArg (Int.log 2) (by norm_num)).trans (Int.log_zpow (R := Rat) one_lt_two 53)
    have hs : binary64Spacing z = 2 := by rw [binary64Spacing, hlog]; norm_num
    rcases abs_eq (by norm_num) |>.1 h with rfl | rfl
    · exact binary64Nearest_of_multiple (k := 2 ^ 52) (by rw [hs]; norm_num)
    · exact binary64Nearest_of_multiple (k := -2 ^ 52) (by rw [hs]; norm_num)

/-- R187 items 1, 2 and 4 for binary64 rounding itself. -/
theorem binary64Nearest_rounds : RoundsLikeBinary64 binary64Nearest :=
  ⟨binary64Nearest_int, fun q h _ => (binary64Nearest_error q).trans (binary64Spacing_le q h)⟩

/-- The error bound on numbers of moderate size, which are far inside the normal range. -/
theorem RoundsLikeBinary64.error_le {fl : Rat → Rat} (h : RoundsLikeBinary64 fl) {q : Rat} (hlo : 1 / 2 ^ 53 ≤ |q|)
    (hhi : |q| ≤ 2 ^ 53) : |fl q - q| ≤ |q| / 2 ^ 53 :=
  h.2 q ((one_div_le_one_div_of_le (by positivity) (pow_le_pow_right₀ one_le_two (by norm_num))).trans hlo)
    (hhi.trans (pow_le_pow_right₀ one_le_two (by norm_num)))

end Sys2Proof.Machine
end

