-- ==== Sys2Proof/Laws/Validator.lean ====
section
/-! SUPPORT. What the validator and a poll cycle can do, said once (R135, R137, R267). -/

namespace Sys2Proof.Machine

@[simp] theorem State.frameByte_crcAcc (s : State) (v : Half) (i : Nat) :
    State.frameByte { s with crcAcc := v } i = s.frameByte i := rfl

theorem frameCrc_eq (s : State) :
    frameCrc s = (crcOf s.cfg.crcRom s.crcRange, { s with crcAcc := crcOf s.cfg.crcRom s.crcRange }) := rfl

/-- The three outcomes of VALIDATE_FRAME (R135). -/
theorem validateFrame_eq (s : State) :
    validateFrame s =
      if headerMismatch s.cfg.headMarker (s.frameByte 0) (s.frameByte 1) (s.frameByte 2) (s.frameByte 3) then
        s.reject (.rejectHeader (s.frameByte 0) (s.frameByte 1) (s.frameByte 2) (s.frameByte 3))
      else if s.checksumField ≠ crcOf s.cfg.crcRom s.crcRange then
        { s with crcAcc := crcOf s.cfg.crcRom s.crcRange }.reject
          (.rejectChecksum s.checksumField (crcOf s.cfg.crcRom s.crcRange))
      else acceptFrame { s with crcAcc := crcOf s.cfg.crcRom s.crcRange } := by
  by_cases h1 : headerMismatch s.cfg.headMarker (s.frameByte 0) (s.frameByte 1) (s.frameByte 2) (s.frameByte 3) = true
  · have hc : headerCheck (s.frameByte 0) (s.frameByte 1) (s.frameByte 2) (s.frameByte 3) s = .rejected _ := if_pos h1
    rw [if_pos h1]
    simp only [validateFrame, State.headerFields, hc]
  · have hc : headerCheck (s.frameByte 0) (s.frameByte 1) (s.frameByte 2) (s.frameByte 3) s = .pass s := if_neg h1
    rw [if_neg h1]
    by_cases h2 : s.checksumField ≠ crcOf s.cfg.crcRom s.crcRange
    · have hk : checksumCheck s.checksumField s = .rejected _ := if_pos h2
      rw [if_pos h2]
      simp only [validateFrame, State.headerFields, hc, hk, frameCrc_eq]
    · have hk : checksumCheck s.checksumField s = .pass _ := if_neg h2
      rw [if_neg h2]
      simp only [validateFrame, State.headerFields, hc, hk, frameCrc_eq]

/-- What VALIDATE_FRAME changes (R137, R263): CRC_ACC, one event, and PHASE and CH_IDX only on accept. -/
theorem validateFrame_cases (s : State) :
    (∃ v e, validateFrame s = { s with crcAcc := v, reports := s.reports ++ [e], result := .rejected }
        ∧ ((∃ a b c d, e = .rejectHeader a b c d) ∨ ∃ a b, e = .rejectChecksum a b))
    ∨ (∃ v, validateFrame s
        = { s with crcAcc := v, phase := .decode, chIdx := 0, reports := s.reports ++ [.frameAccept], result := .done }) := by
  rw [validateFrame_eq]
  split_ifs
  · exact .inl ⟨s.crcAcc, _, rfl, .inl ⟨_, _, _, _, rfl⟩⟩
  · exact .inl ⟨_, _, rfl, .inr ⟨_, _, rfl⟩⟩
  · exact .inr ⟨_, rfl⟩

/-- What a poll cycle can do (R267): the environment's draws and PENDING aside, it fails, resyncs, waits, drops a short read, or
writes the whole FRAME_BUF and validates it. -/
theorem pollCycle_cases (s : State) :
    ∃ as n p, let s1 : State := { s with pending := p, answers := as, drawCount := n }
      (∃ op, pollCycle s = s1.onFail op) ∨ (∃ k, pollCycle s = (s1.emit (.resync k)).reply .done)
      ∨ pollCycle s = s1.reply .done ∨ (∃ k, pollCycle s = s1.reject (.rejectShortRead k))
      ∨ ∃ bs : List Byte, bs.length = frameSize ∧ pollCycle s = validateFrame (s1.memWrite 0 bs) := by
  unfold pollCycle
  rcases bsAvailable_cases s with ⟨k, as, n, -, h⟩ | ⟨left, as, n, -, h⟩
  · rw [h]
    simp only
    split_ifs with h1 h2
    · unfold resync
      rcases bsDiscard_cases { s with answers := as, drawCount := n } with ⟨k', as', n', -, h'⟩ | ⟨left, as', n', -, h'⟩
      · rw [h']; exact ⟨as', n', [], .inr (.inl ⟨_, rfl⟩)⟩
      · rw [h']; exact ⟨as', n', left, .inl ⟨_, rfl⟩⟩
    · exact ⟨as, n, s.pending, .inr (.inr (.inl rfl))⟩
    · unfold frameRead
      rcases bsRead_cases frameSize { s with answers := as, drawCount := n } with ⟨d, as', n', -, h'⟩ | ⟨left, as', n', -, h'⟩
      · rw [h']
        simp only
        split_ifs with h3
        · exact ⟨as', n', _, .inr (.inr (.inr (.inl ⟨_, rfl⟩)))⟩
        · refine ⟨as', n', _, .inr (.inr (.inr (.inr ⟨_, ?_, rfl⟩)))⟩
          have := readCount_le s.cfg.bsConforming d frameSize s.pending.length
          simp only [List.length_take] at h3 ⊢
          omega
      · rw [h']; exact ⟨as', n', left, .inl ⟨_, rfl⟩⟩
  · rw [h]; exact ⟨as, n, left, .inl ⟨_, rfl⟩⟩

/-- A channel step with an open gate (R202). -/
theorem decodeChannel_open (s : State)
    (h : gateOpen (s.channelFields s.chIdx) (scaleRpm s.cfg (s.channelFields s.chIdx).erpm) = true) :
    decodeChannel s = { publish s.chIdx (s.channelFields s.chIdx) (scaleRpm s.cfg (s.channelFields s.chIdx).erpm) s with
      phase := if s.chIdx = 7 then .poll else s.phase
      chIdx := if s.chIdx = 7 then s.chIdx else s.chIdx + 1
      result := .done } := by
  simp only [decodeChannel, h, if_true, advanceChannel]
  have : (publish s.chIdx (s.channelFields s.chIdx) (scaleRpm s.cfg (s.channelFields s.chIdx).erpm) s).chIdx = s.chIdx := rfl
  rw [this]
  split_ifs <;> rfl

/-- A channel step with a closed gate (R206). -/
theorem decodeChannel_closed (s : State)
    (h : gateOpen (s.channelFields s.chIdx) (scaleRpm s.cfg (s.channelFields s.chIdx).erpm) = false) :
    decodeChannel s = { s with
      phase := if s.chIdx = 7 then .poll else s.phase
      chIdx := if s.chIdx = 7 then s.chIdx else s.chIdx + 1
      result := .done } := by
  simp only [decodeChannel, h, advanceChannel, Bool.false_eq_true, if_false]
  split_ifs <;> rfl

/-- What a channel step can do (R202, R205, R206): the advance alone, or one store update and one report before it. -/
theorem decodeChannel_cases (s : State) :
    let ph : Phase := if s.chIdx = 7 then .poll else s.phase
    let ix : Fin 8 := if s.chIdx = 7 then s.chIdx else s.chIdx + 1
    decodeChannel s = { s with phase := ph, chIdx := ix, result := .done }
    ∨ ∃ v c t r, decodeChannel s = { s with
        phase := ph, chIdx := ix, result := .done, store := ⟨true, v, c, t⟩
        reports := s.reports ++ [.storeUpdate v c t] ++ [.channelReport s.chIdx r] } := by
  intro ph ix
  cases h : gateOpen (s.channelFields s.chIdx) (scaleRpm s.cfg (s.channelFields s.chIdx).erpm) with
  | true => exact .inr ⟨_, _, _, _, decodeChannel_open s h⟩
  | false => exact .inl (decodeChannel_closed s h)

end Sys2Proof.Machine
end

