-- ==== Sys2Proof/Tests/Slice0.lean ====
section
/-! SUPPORT. Small tests, each of one operation or one step, with expected results from spec/95_test_vectors.md; the WellFormed and
legality smoke tests; and for every statement with hypotheses a witness that meets them. -/

namespace Sys2Proof.Tests

open Sys2Proof.Machine

-- One theorem after the other: checked side by side, they ask for more threads than the memory limit allows.
set_option Elab.async false

/-! ### Helpers -/

/-- A configuration with the spec's example table (V14) and HEAD_MARKER = 0x5A, which no vector depends on. -/
def testCfg : Config where
  headMarker := 0x5A
  poleCount := 1
  layout := .a
  tempTable := exampleTable
  bsConforming := true
  crcRom := crcRomContents
  tempRom := tempRomContents exampleTable

/-- A block in RUNNING and POLL that has decoded nothing yet; the core has the next move and the byte source serves two calls. -/
def testState : State where
  cfg := testCfg
  frameBuf := []
  crcAcc := 0x1234
  phase := .poll
  chIdx := 3
  lifecycle := .running
  store := { valid := false, voltage := 7, current := 7, temp := 7 }
  pending := []
  srcOpen := true
  cancelReq := false
  reports := []
  result := .none
  schedule := [.core]
  answers := [.serve 164, .serve 164]
  epoch := 0
  drawCount := 0
  moveCount := 0

/-- The next state, if there is one. -/
def nextOf : Host.Outcome State Fault Refusal → Option State
  | .next s => some s
  | .fault _ => none
  | .refused _ => none

/-- The answer of an operation run on its own. -/
def answerOf (i : Instr) (s : State) : Option Result := (nextOf (exec i s)).map State.result

/-- The events of an operation run on its own. -/
def eventsOf (i : Instr) (s : State) : Option (List Event) := (nextOf (exec i s)).map State.reports

def zeros (n : Nat) : List Byte := List.replicate n 0

/-- The channel region of F_A (V4), one record a line. -/
def bodyA : List Byte :=
  zeros 19
    ++ [0x00, 0x00, 0x01] ++ zeros 16
    ++ [0x00, 0x00, 0x02] ++ zeros 16
    ++ zeros 10 ++ [0x01, 0x00, 0x00, 0x00, 0x00, 0xF1, 0xF1, 0x00, 0x00]
    ++ zeros 11 ++ [0xFF, 0x80, 0x00, 0x00, 0x00, 0x00, 0x00, 0x00]
    ++ [0x00, 0x00, 0x01] ++ zeros 12 ++ [0x1E, 0x00, 0x00, 0x00]
    ++ [0x5A, 0x00, 0x03, 0x40, 0x00, 0x80, 0x00, 0x00, 0x64, 0x01, 0xF4, 0x00, 0x40, 0xFF, 0xC0, 0xF0, 0x1E, 0x01, 0x02]
    ++ zeros 19

/-- F_A (V4) with the given last six bytes. -/
def frameBytesA (tail : List Byte) : List Byte := [0x5A, 0x9E, 0x01, 0x02, 0x00, 0x00] ++ bodyA ++ tail

/-- F_A as built in layout A. -/
def fA : List Byte := frameBytesA [0x00, 0x00, 0x00, 0x00, 0xF6, 0x8E]

/-- The channel record of all zeros. -/
def zeroChannel : Channel := ⟨0, 0, 0, 0, 0, 0, 0, 0, 0, 0, 0⟩

/-- The operands V4 gives F_A, with the given unassigned bytes and checksum. -/
def frameA (checksum : Half) : Frame where
  reserved := 0
  ch0 := zeroChannel
  ch1 := { zeroChannel with motorIdx := 1 }
  ch2 := { zeroChannel with motorIdx := 2 }
  ch3 := { zeroChannel with volt := 1, tMos := 241, tCap := 241 }
  ch4 := { zeroChannel with curr := 0xFF80 }
  ch5 := { zeroChannel with motorIdx := 1, tMos := 30 }
  ch6 := ⟨0x5A, 3, 16384, 32768, 100, 500, 64, 0xFFC0, 240, 30, 0x0102⟩
  ch7 := zeroChannel
  un0 := 0
  un1 := 0
  un2 := 0
  un3 := 0
  checksum := checksum

/-- The test state with bytes in FRAME_BUF from offset 0. -/
def holding (bytes : List Byte) : State := testState.memWrite 0 bytes

/-- The test state with bytes in PENDING. -/
def pendingState (bytes : List Byte) : State := { testState with pending := bytes }

/-- The test state in layout `lay`. -/
def inLayout (lay : Layout) (s : State) : State := { s with cfg := { s.cfg with layout := lay } }

/-- The test state with POLE_COUNT `p`. -/
def withPoles (p : Half) : State := { testState with cfg := { testCfg with poleCount := p } }

/-- F_A accepted, slot `k` next. -/
def decoding (k : Fin 8) : State := { holding fA with phase := .decode, chIdx := k }

theorem fA_length : fA.length = 164 := by decide +kernel

theorem holding_fA_wf : (holding fA).frameBuf.wf = true := State.memWrite_wf testState 0 fA (by decide)

theorem holding_fA_written : (holding fA).frameWritten := fun i hi => State.frameWritten_memWrite testState fA fA_length i hi

/-- One byte of FRAME_BUF replaced. -/
theorem frameByte_poke (s : State) (o : Nat) (b : Byte) (ho : o < 164) (i : Nat) :
    (s.memWrite o [b]).frameByte i = if i = o then b else s.frameByte i := by
  simp only [State.frameByte, State.memWrite, Memory.writeBytes, Memory.read_write]
  by_cases h : i = o <;> simp [h, ho]

theorem testCfg_legal : testCfg.Legal := ⟨by decide, exampleTable_legal, rfl, rfl⟩

/-! ### WellFormed and legality smoke tests -/

theorem test_wf_resync : (Instr.resync 165).wf = true ∧ (Instr.resync 164).wf = false := by decide
theorem test_wf_wait : (Instr.wait 163).wf = true ∧ (Instr.wait 164).wf = false := by decide
theorem test_wf_bsRead : (Instr.bsRead 164).wf = true ∧ (Instr.bsRead 163).wf = false ∧ (Instr.bsRead 165).wf = false := by
  decide
theorem test_wf_shortRead : (Instr.shortRead 163).wf = true ∧ (Instr.shortRead 164).wf = false := by decide

/-- R292, R9: POLE_COUNT = 0 is refused. -/
theorem test_legal_poleCount : ¬ Config.Legal { testCfg with poleCount := 0 } := by
  intro h
  exact absurd h.1 (by decide)

/-- R166 W1: 129 entries are refused. -/
theorem test_legal_tableLength : ¬ TempTable.Legal (exampleTable.drop 1) := fun h => absurd h.1 (by decide +kernel)

/-- R166 W7: a table with an entry at 235 is refused. -/
theorem test_legal_table235 : ¬ TempTable.Legal (⟨235, 0⟩ :: exampleTable) := fun h =>
  h.2.2.2.2.2.1 ⟨235, 0⟩ (by simp) rfl

/-! ### Decoding -/

/-- V4, V18: F_A's bytes are F_A's fields, in layout A. -/
theorem test_decode_frameA : decode 0x5A .a fA = .ok (.telemetryFrame (frameA 0x8EF6)) := by
  decide +kernel

/-- V4: F_A in layouts B and C. -/
theorem test_decode_layoutBC :
    decode 0x5A .b (frameBytesA [0x90, 0x12, 0x00, 0x00, 0x00, 0x00]) = .ok (.telemetryFrame (frameA 0x1290))
    ∧ decode 0x5A .c (frameBytesA [0x00, 0x00, 0x00, 0x00, 0x90, 0x12]) = .ok (.telemetryFrame (frameA 0x1290)) := by
  decide +kernel

/-- V23, V12, R90: illegal headers are rejected with the four values read. -/
theorem test_decode_badHeader :
    decode 0xA5 .a fA = .error (.badHeader 0x5A 0x9E 0x01 0x02)
    ∧ decode 0x5A .a ([0x5A, 0x9E, 0x01, 0x00] ++ zeros 160) = .error (.badHeader 0x5A 0x9E 0x01 0x00)
    ∧ decode 0x5A .a ([0x5A, 0x9E, 0x02, 0x02] ++ zeros 160) = .error (.badHeader 0x5A 0x9E 0x02 0x02)
    ∧ decode 0x5A .a ([0x5A, 0xA2, 0x01, 0x02] ++ zeros 160) = .error (.badHeader 0x5A 0xA2 0x01 0x02) := by
  decide +kernel

/-- R80: 163 and 165 bytes are no frame. -/
theorem test_decode_length :
    decode 0x5A .a (zeros 163) = .error (.wrongLength 163) ∧ decode 0x5A .a (fA ++ [0]) = .error (.wrongLength 165) := by
  decide +kernel

/-- V11: the table's word with HEAD_MARKER 0x5A runs as the first instruction after reset: F_Z with checksum bytes 00 00. -/
theorem test_step_fetchWord :
    (nextOf (step (State.reset.withFetchWord 32 0x5A9E0102))).map State.reports = some [.rejectChecksum 0x0000 0x42AB] := by
  decide +kernel

/-! ### Checksum engine -/

/-- V2. -/
theorem test_crcStep :
    [(0x0000, 0x31), (0xFFFF, 0x00), (0xFFFF, 0xFF), (0x1234, 0x56), (0x8000, 0x00), (0x0001, 0x01)].map
        (fun p => answerOf (.crcStep p.1 p.2) testState)
      = [some (.u16 0x2672), some (.u16 0xE1F0), some (.u16 0xFF00), some (.u16 0x3C40), some (.u16 0x9188),
          some (.u16 0x1121)] := by
  decide +kernel

/-- V1, S1. -/
theorem test_crcCompute_check :
    (nextOf (exec (.crcCompute [0x31, 0x32, 0x33, 0x34, 0x35, 0x36, 0x37, 0x38, 0x39]) testState)).map State.crcAcc
      = some 0x31C3 := by
  decide +kernel

/-- V3. -/
theorem test_crcCompute_rows :
    [[], [0xFF, 0xFF], [0x41], [0x9E, 0x01, 0x02, 0x00, 0x00], zeros 157].map (fun b => answerOf (.crcCompute b) testState)
      = [some (.u16 0x0000), some (.u16 0x1D0F), some (.u16 0x58E5), some (.u16 0xF1F6), some (.u16 0x0000)] := by
  decide +kernel

/-- V10: F_A in the three layouts. -/
theorem test_frameCrc_layouts :
    [Layout.a, .b, .c].map (fun l => answerOf .frameCrc (inLayout l (holding fA)))
      = [some (.u16 0x8EF6), some (.u16 0x1290), some (.u16 0x1290)] := by
  decide +kernel

/-- V10: the unassigned bytes are covered in layout A only. -/
theorem test_frameCrc_unassigned :
    [Layout.a, .c].map (fun l => answerOf .frameCrc (inLayout l (holding (frameBytesA [0xDE, 0xAD, 0xBE, 0xEF, 0, 0]))))
      = [some (.u16 0x4AA1), some (.u16 0x1290)] := by
  decide +kernel

/-! ### Frame validator -/

/-- R131 on F_A. -/
theorem test_parseHeader : answerOf .parseHeader (holding fA) = some (.header ⟨0x5A, 0x9E, 0x01, 0x02, 0x0000⟩) := by
  decide +kernel

/-- V12. -/
theorem test_headerCheck :
    eventsOf (.headerCheck 0x5A 0x9E 0x01 0x02) testState = some []
    ∧ eventsOf (.headerCheck 0x5A 0xA2 0x01 0x02) testState = some [.rejectHeader 0x5A 0xA2 0x01 0x02] := by
  decide +kernel

/-- R133: the checksum is little-endian. -/
theorem test_parseChecksum :
    answerOf .parseChecksum (holding fA) = some (.u16 0x8EF6)
    ∧ answerOf .parseChecksum (inLayout .b (holding (frameBytesA [0x90, 0x12, 0, 0, 0, 0]))) = some (.u16 0x1290) := by
  decide +kernel

/-- V11, swapped bytes. -/
theorem test_checksumCheck :
    eventsOf (.checksumCheck 0x8EF6) (holding fA) = some []
    ∧ eventsOf (.checksumCheck 0xF68E) (holding fA) = some [.rejectChecksum 0xF68E 0x8EF6] := by
  decide +kernel

/-- V12, R135: the header is reported although the checksum is wrong too. -/
theorem test_validateFrame_order :
    eventsOf .validateFrame ((holding fA).memWrite 1 [0x9D]) = some [.rejectHeader 0x5A 0x9D 0x01 0x02] := by
  decide +kernel

/-- V12: RESERVED is in the range but not checked. -/
theorem test_validateFrame_reserved :
    eventsOf .validateFrame ((holding fA).memWrite 4 [0xFF, 0xFF]) = some [.rejectChecksum 0x8EF6 0x827B] := by
  decide +kernel

/-- R136. -/
theorem test_accept :
    (nextOf (exec .accept testState)).map (fun t => (t.phase, t.chIdx, t.reports)) = some (.decode, 0, [.frameAccept]) := by
  decide +kernel

/-- V11: F_A as built passes. -/
theorem test_telemetryFrame_accepts :
    (nextOf (exec (.telemetryFrame (frameA 0x8EF6)) testState)).map (fun t => (t.phase, t.chIdx, t.crcAcc, t.reports))
      = some (.decode, 0, 0x8EF6, [.frameAccept]) := by
  decide +kernel

/-- V11: one checksum bit flipped. -/
theorem test_telemetryFrame_rejects :
    (nextOf (exec (.telemetryFrame (frameA 0x8EF7)) testState)).map (fun t => (t.phase, t.reports))
      = some (.poll, [.rejectChecksum 0x8EF7 0x8EF6]) := by
  decide +kernel

/-! ### Temperature decoder -/

/-- V14 under the example table. -/
theorem test_tempScan :
    [0, 1, 125, 126, 234, 235, 236, 241, 255].map (fun r => answerOf (.tempScan r) testState)
      = [0, 130, 130, 114, 6, 6, 5, 0, -14].map (fun v => some (Result.degrees v)) := by
  decide +kernel

/-- V14: the entries that R167 fixes, and a negative one. -/
theorem test_tempDecode :
    [0, 1, 31, 240, 241].map (fun r => answerOf (.tempDecode r) testState)
      = [0, 130, 130, 1, 0].map (fun v => some (Result.s16 v))
    ∧ answerOf (.tempDecode 250) testState = some (.s16 (-9)) := by
  decide +kernel

/-- R164, R165. -/
theorem test_tempMos_tempCap :
    answerOf (.tempMos 240) testState = some (.s16 1) ∧ answerOf (.tempCap 30) testState = some (.s16 130) := by
  decide +kernel

/-! ### Field scalers -/

/-- V15: the codes pass unchanged. -/
theorem test_unitScalers :
    answerOf (.scaleCurrent 0xFF80) testState = some (.s16 (-128)) ∧ answerOf (.scalePhaseCurrent 0x8000) testState = some (.s16 (-32768))
    ∧ answerOf (.scaleVoltage 0x01F4) testState = some (.u16 500) ∧ answerOf (.scaleThrottleIn 0x4000) testState = some (.u16 16384)
    ∧ answerOf (.scaleThrottleOut 0xFFFF) testState = some (.u16 65535) := by
  decide +kernel

/-- V15: what the codes denote. -/
theorem test_denoted :
    denotedCurrent (-128) = -2 ∧ denotedVoltage 500 = 50 ∧ denotedThrottle 16384 = 1 / 2 := by
  decide +kernel

/-- V16. -/
theorem test_scaleRpm :
    [(100, 4), (7, 4), (65535, 1), (65535, 7), (65535, 65535), (1, 11), (6553, 65535), (6554, 65535)].map
        (fun p => answerOf (.scaleRpm p.1) (withPoles p.2))
      = [250, 17, 655350, 93621, 10, 0, 0, 1].map (fun v => some (Result.u32 v)) := by
  decide +kernel

/-- V19. -/
theorem test_scaleTempCenti :
    [130, -5, 327, -327].map (fun t => answerOf (.scaleTempCenti t) testState)
      = [13000, -500, 32700, -32700].map (fun v => some (Result.s32 v)) := by
  decide +kernel

/-! ### Telemetry decoder and store -/

/-- V18: slot 6 of F_A. -/
theorem test_parseChannel : answerOf (.parseChannel 6) (holding fA) = some (.channel (frameA 0).ch6) := by
  decide +kernel

/-- V17. -/
theorem test_gate :
    [{ zeroChannel with motorIdx := 1 }, { zeroChannel with motorIdx := 2 }, { zeroChannel with volt := 1 },
        { zeroChannel with curr := 1 }, { zeroChannel with curr := -1 }].map (fun f => answerOf (.gate f 0) testState)
      = [false, true, true, true, false].map (fun b => some (Result.flag b))
    ∧ answerOf (.gate zeroChannel 1) testState = some (.flag true) := by
  decide +kernel

/-- V13: slot 6. -/
theorem test_decodeChannel_open :
    (nextOf (exec .decodeChannel (decoding 6))).map (fun t => (t.phase, t.chIdx, t.store, t.reports))
      = some (.decode, 7, ⟨true, 500, 64, 100⟩,
          [.storeUpdate 500 64 100, .channelReport 6 ⟨3, 1000, 64, 500, 1, 130, 0x5A, 16384, 32768, -64, 0x0102⟩]) := by
  decide +kernel

/-- V13: slots 4 (a negative current) and 7 (the last). -/
theorem test_decodeChannel_closed :
    (nextOf (exec .decodeChannel (decoding 4))).map (fun t => (t.phase, t.chIdx, t.store.valid, t.reports)) = some (.decode, 5, false, [])
    ∧ (nextOf (exec .decodeChannel (decoding 7))).map (fun t => (t.phase, t.chIdx, t.store.valid, t.reports)) = some (.poll, 7, false, []) := by
  decide +kernel

/-- V19. -/
theorem test_storeUpdate :
    (nextOf (exec (.storeUpdate 500 64 100) testState)).map (fun t => (t.store, t.reports))
      = some (⟨true, 500, 64, 100⟩, [.storeUpdate 500 64 100]) := by
  decide +kernel

/-- V13: the report of slot 6. -/
theorem test_report :
    answerOf (.report 6 (frameA 0).ch6 1000 64 500 1 130 (-64) 16384 32768) testState
      = some (.report ⟨3, 1000, 64, 500, 1, 130, 0x5A, 16384, 32768, -64, 0x0102⟩) := by
  decide +kernel

/-- V22. -/
theorem test_storeRead :
    answerOf .storeRead testState = some .noSample
    ∧ answerOf .storeRead { testState with store := ⟨true, 1, 0, 0⟩, lifecycle := .failed } = some (.sample 1 0 0) := by
  decide +kernel

/-! ### Synchronizer -/

/-- R231, R243. -/
theorem test_bsAvailable :
    answerOf .bsAvailable (pendingState fA) = some (.count 164)
    ∧ eventsOf .bsAvailable { testState with answers := [.fail [1]] } = some [.transportFailure .available] := by
  decide +kernel

/-- R236: 170 bytes pending, read(164). -/
theorem test_bsRead :
    (nextOf (exec (.bsRead 164) (pendingState (fA ++ [1, 2, 3, 4, 5, 6])))).map (fun t => (t.result, t.pending))
      = some (.bytes fA, [1, 2, 3, 4, 5, 6]) := by
  decide +kernel

/-- R238. -/
theorem test_bsDiscard : (nextOf (exec .bsDiscard (pendingState (zeros 300)))).map State.pending = some [] := by
  decide +kernel

/-- R239. -/
theorem test_bsClose : (nextOf (exec .bsClose testState)).map State.srcOpen = some false := by decide +kernel

/-- V20: 163 and 165 pending. -/
theorem test_pollCycle_counts :
    (nextOf (exec .pollCycle (pendingState (zeros 163)))).map (fun t => (t.reports, t.pending.length)) = some ([], 163)
    ∧ (nextOf (exec .pollCycle (pendingState (zeros 165)))).map (fun t => (t.reports, t.pending.length)) = some ([.resync 165], 0) := by
  decide +kernel

/-- V20: F_A, and a read that returns 100 bytes. -/
theorem test_pollCycle_frames :
    (nextOf (exec .pollCycle (pendingState fA))).map (fun t => (t.reports, t.pending, t.phase, t.chIdx))
      = some ([.frameAccept], [], .decode, 0)
    ∧ (nextOf (exec .pollCycle { pendingState fA with
          cfg := { testCfg with bsConforming := false }, answers := [.serve 0, .serve 100] })).map
        (fun t => (t.reports, t.pending.length, t.phase)) = some ([.rejectShortRead 100], 64, .poll) := by
  decide +kernel

/-- V20: the discard and the read fail. -/
theorem test_resync_frameRead_fail :
    (nextOf (exec (.resync 165) { testState with answers := [.fail []] })).map (fun t => (t.lifecycle, t.reports))
      = some (.failed, [.transportFailure .discard])
    ∧ (nextOf (exec .frameRead { testState with answers := [.fail []] })).map (fun t => (t.lifecycle, t.reports))
      = some (.failed, [.transportFailure .read]) := by
  decide +kernel

/-- R234, R237. -/
theorem test_wait_shortRead :
    eventsOf (.wait 10) testState = some [] ∧ eventsOf (.shortRead 100) testState = some [.rejectShortRead 100] := by
  decide +kernel

/-- R240: the new bytes are the youngest. -/
theorem test_arrive : (nextOf (exec (.arrive [3, 4]) (pendingState [1, 2]))).map State.pending = some [1, 2, 3, 4] := by
  decide +kernel

/-- V21. -/
theorem test_start :
    (nextOf (startRun .ok { testState with lifecycle := .unopened, srcOpen := false } |> .next)).map
        (fun t => (t.lifecycle, t.phase, t.srcOpen, t.reports)) = some (.running, .poll, true, [])
    ∧ (nextOf (exec (.start .ok) { testState with lifecycle := .failed })).map (fun t => (t.lifecycle, t.reports)) = some (.failed, []) := by
  decide +kernel

/-- V21. -/
theorem test_cancel :
    (nextOf (exec .cancel { testState with cancelReq := true })).map (fun t => (t.lifecycle, t.cancelReq, t.srcOpen, t.reports))
      = some (.stopped, false, false, [.stopped])
    ∧ (nextOf (exec .cancel { testState with cancelReq := true, phase := .decode })).isNone = true := by
  decide +kernel

/-- R243. -/
theorem test_transportFailure :
    (nextOf (exec (.transportFailure .read) testState)).map (fun t => (t.lifecycle, t.srcOpen, t.reports))
      = some (.failed, true, [.transportFailure .read]) := by
  decide +kernel

/-- V21: in DECODE with a cancel request only DECODE_CHANNEL is enabled; at the boundary only CANCEL is. -/
theorem test_enabling :
    { decoding 3 with cancelReq := true }.enabledStep = some .decodeChannel
    ∧ { testState with cancelReq := true }.enabledStep = some .cancel
    ∧ { testState with cancelReq := true, lifecycle := .stopped }.enabledStep = none := by
  decide +kernel

/-- R24, R25, R33: the codes. -/
theorem test_codes :
    Phase.code .decode = 1 ∧ Lifecycle.code .failed = 3 ∧ Event.code (.resync 0) = 1 ∧ Event.code .stopped = 9 := by
  decide

/-! ### Witnesses: for each statement with hypotheses, states and operands that meet them together -/

/-- An operation that is seen to answer has a next state. -/
theorem exists_next {α : Type} {o : Host.Outcome State Fault Refusal} {f : State → α} {a : α} (h : (nextOf o).map f = some a) :
    ∃ u, o = .next u ∧ f u = a := by
  cases o with
  | next u => exact ⟨u, rfl, by simpa [nextOf] using h⟩
  | fault r => simp [nextOf] at h
  | refused r => simp [nextOf] at h

theorem test_witness_EncodeDecodeRoundTrip : ∃ i, decode 0x5A .a fA = .ok i := ⟨_, test_decode_frameA⟩

theorem test_witness_StepRunsDecodedFrame (c : Bool) :
    ∃ (s s1 s2 s3 : State) (i : Instr), s.cfg.bsConforming = c ∧ s.nextMove = (.core, s1) ∧ s1.nextAnswer = (.serve 164, s2)
      ∧ s2.nextAnswer = (.serve 164, s3) ∧ s.lifecycle = .running ∧ s.phase = .poll ∧ s.cancelReq = false
      ∧ (s.cfg.bsConforming = true ∨ 164 ≤ 164) ∧ decode s.cfg.headMarker s.cfg.layout s.pending = .ok i :=
  ⟨{ pendingState fA with cfg := { testCfg with bsConforming := c } }, _, _, _, .telemetryFrame (frameA 0x8EF6), rfl, rfl, rfl,
    rfl, rfl, rfl, rfl, .inr (le_refl _), by cases c <;> decide +kernel⟩

theorem test_witness_StepFollowsEnablingTable (l : Lifecycle) (p : Phase) (c : Bool) :
    ∃ s s1 : State, s.nextMove = (.core, s1) ∧ s.lifecycle = l ∧ s.phase = p ∧ s.cancelReq = c :=
  ⟨{ testState with lifecycle := l, phase := p, cancelReq := c }, _, rfl, rfl, rfl, rfl⟩

/-- For StepRunsEnvironmentMoves and ResetMoveClearsTheBlock. -/
theorem test_witness_StepRunsEnvironmentMoves (m : Move) : ∃ s s1 : State, s.nextMove = (m, s1) :=
  ⟨{ testState with schedule := [m] }, _, rfl⟩

/-- For CrcStepUsesGeneratedTable, CrcComputeIsBitSerial, CrcIsPolynomialRemainder, FrameCrcCoversItsRange, ChecksumCheckComparesCrc
and TelemetryFrameIsValidated, in every layout. -/
theorem test_witness_crcRom (lay : Layout) :
    ∃ s : State, s.cfg.layout = lay ∧ s.cfg.crcRom = crcRomContents ∧ s.frameBuf.wf = true :=
  ⟨inLayout lay testState, rfl, rfl, rfl⟩

theorem test_witness_HeadNeverAffectsFrameCrc :
    ∃ s t : State, s.cfg.layout = t.cfg.layout ∧ s.cfg.crcRom = t.cfg.crcRom
      ∧ (∀ i, 1 ≤ i → i ≤ lastCovered s.cfg.layout → s.frameByte i = t.frameByte i) ∧ s.frameByte 0 ≠ t.frameByte 0 := by
  refine ⟨holding fA, (holding fA).memWrite 0 [0xA5], rfl, rfl, fun i h _ => ?_, by decide +kernel⟩
  rw [frameByte_poke _ _ _ (by decide), if_neg (by omega)]

/-- A frame that passes, with one bit flipped, meets every hypothesis of SingleBitErrorIsRejected. -/
theorem singleBit_witness (s : State) (o k : Nat) (hrom : s.cfg.crcRom = crcRomContents) (hk : k < 8) (ho : o < 164)
    (hr : 1 ≤ o ∧ o ≤ lastCovered s.cfg.layout ∨ o = checksumPlace s.cfg.layout ∨ o = checksumPlace s.cfg.layout + 1)
    (hp : eventsOf (.checksumCheck s.checksumField) s = some s.reports) :
    ∃ t : State, s.cfg.crcRom = crcRomContents ∧ t.cfg = s.cfg ∧ k < 8
      ∧ (1 ≤ o ∧ o ≤ lastCovered s.cfg.layout ∨ o = checksumPlace s.cfg.layout ∨ o = checksumPlace s.cfg.layout + 1)
      ∧ (∀ i, t.frameByte i = if i = o then s.frameByte i ^^^ (1#8 <<< k) else s.frameByte i)
      ∧ ∃ u, exec (.checksumCheck s.checksumField) s = .next u ∧ u.reports = s.reports := by
  refine ⟨s.memWrite o [s.frameByte o ^^^ (1#8 <<< k)], hrom, by simp only [State.memWrite], hk, hr, fun i => ?_, exists_next hp⟩
  rw [frameByte_poke _ _ _ ho]
  split
  · next e => rw [e]
  · rfl

/-- Layout A: at the two ends of the covered range and in both checksum bytes. -/
theorem test_witness_SingleBitErrorIsRejected (o k : Nat) (h : (o, k) ∈ [(1, 0), (161, 7), (162, 0), (163, 7)]) :
    ∃ t : State, (holding fA).cfg.crcRom = crcRomContents ∧ t.cfg = (holding fA).cfg ∧ k < 8
      ∧ (1 ≤ o ∧ o ≤ 161 ∨ o = 162 ∨ o = 163)
      ∧ (∀ i, t.frameByte i = if i = o then (holding fA).frameByte i ^^^ (1#8 <<< k) else (holding fA).frameByte i)
      ∧ ∃ u, exec (.checksumCheck (holding fA).checksumField) (holding fA) = .next u ∧ u.reports = (holding fA).reports := by
  simp only [List.mem_cons, Prod.mk.injEq, List.not_mem_nil, or_false] at h
  exact singleBit_witness (holding fA) o k rfl (by omega) (by omega)
    (show 1 ≤ o ∧ o ≤ 161 ∨ o = 162 ∨ o = 163 by omega) (by decide +kernel)

/-- F_A in layouts B and C (V4, V10). -/
def holdingB : State := inLayout .b (holding (frameBytesA [0x90, 0x12, 0x00, 0x00, 0x00, 0x00]))
def holdingC : State := inLayout .c (holding (frameBytesA [0x00, 0x00, 0x00, 0x00, 0x90, 0x12]))

/-- Layout B: the same places; the unassigned bytes behind the checksum are no place of the statement. -/
theorem test_witness_SingleBitErrorIsRejected_layoutB (o k : Nat) (h : (o, k) ∈ [(1, 0), (157, 7), (158, 0), (159, 7)]) :
    ∃ t : State, holdingB.cfg.crcRom = crcRomContents ∧ t.cfg = holdingB.cfg ∧ k < 8
      ∧ (1 ≤ o ∧ o ≤ 157 ∨ o = 158 ∨ o = 159)
      ∧ (∀ i, t.frameByte i = if i = o then holdingB.frameByte i ^^^ (1#8 <<< k) else holdingB.frameByte i)
      ∧ ∃ u, exec (.checksumCheck holdingB.checksumField) holdingB = .next u ∧ u.reports = holdingB.reports := by
  simp only [List.mem_cons, Prod.mk.injEq, List.not_mem_nil, or_false] at h
  exact singleBit_witness holdingB o k rfl (by omega) (by omega)
    (show 1 ≤ o ∧ o ≤ 157 ∨ o = 158 ∨ o = 159 by omega) (by decide +kernel)

/-- Layout C: the range ends at 157, the checksum stands at 162. -/
theorem test_witness_SingleBitErrorIsRejected_layoutC (o k : Nat) (h : (o, k) ∈ [(1, 0), (157, 7), (162, 0), (163, 7)]) :
    ∃ t : State, holdingC.cfg.crcRom = crcRomContents ∧ t.cfg = holdingC.cfg ∧ k < 8
      ∧ (1 ≤ o ∧ o ≤ 157 ∨ o = 162 ∨ o = 163)
      ∧ (∀ i, t.frameByte i = if i = o then holdingC.frameByte i ^^^ (1#8 <<< k) else holdingC.frameByte i)
      ∧ ∃ u, exec (.checksumCheck holdingC.checksumField) holdingC = .next u ∧ u.reports = holdingC.reports := by
  simp only [List.mem_cons, Prod.mk.injEq, List.not_mem_nil, or_false] at h
  exact singleBit_witness holdingC o k rfl (by omega) (by omega)
    (show 1 ≤ o ∧ o ≤ 157 ∨ o = 162 ∨ o = 163 by omega) (by decide +kernel)

set_option maxRecDepth 100000 in
/-- A bad header, a bad checksum, a good frame. -/
theorem test_witness_ValidateFrameFollowsFixedOrder :
    (((holding fA).memWrite 3 [0x03]).frameByte 3).toNat ≠ 2
    ∧ (∀ s ∈ [(holding fA).memWrite 162 [0xF7], holding fA], s.frameByte 0 = s.cfg.headMarker ∧ (s.frameByte 1).toNat = 158
        ∧ (s.frameByte 2).toNat = 1 ∧ (s.frameByte 3).toNat = 2)
    ∧ ((holding fA).memWrite 162 [0xF7]).checksumField
        ≠ bitSerial (coveredBytes .a ((holding fA).memWrite 162 [0xF7]).frameByte)
    ∧ (holding fA).checksumField = bitSerial (coveredBytes .a (holding fA).frameByte) := by
  decide +kernel

theorem test_witness_RejectionIsPrecise :
    ∃ s t : State, exec .validateFrame s = .next t ∧ t.reports ≠ s.reports ++ [.frameAccept] := by
  obtain ⟨t, h, e⟩ := exists_next (o := exec .validateFrame ((holding fA).memWrite 3 [0x03])) (f := State.reports)
    (a := [.rejectHeader 0x5A 0x9E 0x01 0x03]) (by decide +kernel)
  exact ⟨_, t, h, by rw [e]; decide⟩

/-- Raw 0; raw codes at a threshold and between two; the highest raw code below every threshold. -/
theorem test_witness_TempScanFindsLargestThreshold :
    TempTable.Legal testState.cfg.tempTable
    ∧ (⟨241, 0⟩ ∈ exampleTable ∧ ∀ e' ∈ exampleTable, e'.threshold ≤ 241 → e'.threshold ≤ 241)
    ∧ (⟨234, 6⟩ ∈ exampleTable ∧ ∀ e' ∈ exampleTable, e'.threshold ≤ 235 → e'.threshold ≤ 234)
    ∧ ∀ e ∈ exampleTable, 124 < e.threshold :=
  ⟨exampleTable_legal, by decide +kernel, by decide +kernel, by decide +kernel⟩

/-- For TempDecodeEqualsScan, TempRomIsNonIncreasing, EveryStepGoesOn and TempRomFixedEntries (whose fifth clause is met at 125). -/
theorem test_witness_configLegal :
    testState.cfg.Legal ∧ exampleTable[128]? = some ⟨126, 114⟩ ∧ ((125 : Byte).toNat : Int) < 126 :=
  ⟨testCfg_legal, by decide +kernel, by decide⟩

theorem test_witness_ScaleRpmFloors : 1 ≤ (withPoles 1).cfg.poleCount.toNat ∧ 1 ≤ (withPoles 65535).cfg.poleCount.toNat := by
  decide +kernel

/-- R187's own fl: binary64 rounding to nearest. -/
theorem test_witness_RpmAgreesWithFloatFormula : RoundsLikeBinary64 binary64Nearest ∧ 1 ≤ testCfg.poleCount.toNat :=
  ⟨binary64Nearest_rounds, by decide⟩

theorem test_witness_ScaleTempCentiIsExact : (-327 : Half).toInt = -327 ∧ (327 : Half).toInt = 327 := by decide

/-- For DecodeChannelRunsOneSlot at every slot, and FrameDecodesEightSlots at slot 0. -/
theorem test_witness_DecodeChannelRunsOneSlot (k : Fin 8) :
    (decoding k).cfg.Legal ∧ (decoding k).lifecycle = .running ∧ (decoding k).phase = .decode ∧ (decoding k).chIdx = k :=
  ⟨testCfg_legal, rfl, rfl, rfl⟩

/-- F_A between slots 2 and 3, after the update of slot 2. -/
def midFrame : State :=
  { decoding 3 with
    store := ⟨true, 0, 0, 0⟩
    reports := [.frameAccept, .storeUpdate 0 0 0, .channelReport 2 ⟨2, 0, 0, 0, 0, 0, 0, 0, 0, 0, 0⟩] }

/-- For StoreReadSeesLatestUpdate, with an update and without one. -/
theorem test_witness_Inv : Inv midFrame ∧ Inv (decoding 0) := by
  constructor
  · exact
      { config := testCfg_legal
        memory := by
          simp only [midFrame, decoding]
          exact holding_fA_wf
        decoding := fun _ => rfl
        written := fun _ => by
          simp only [midFrame, decoding, State.frameWritten]
          exact holding_fA_written
        sourceOpen := fun _ => rfl
        sourceClosed := fun h => by rcases h with h | h <;> cases h
        stored := rfl
        reported := rfl }
  · exact
      { config := testCfg_legal
        memory := by
          simp only [decoding]
          exact holding_fA_wf
        decoding := fun _ => rfl
        written := fun _ => by
          simp only [decoding, State.frameWritten]
          exact holding_fA_written
        sourceOpen := fun _ => rfl
        sourceClosed := fun h => by rcases h with h | h <;> cases h
        stored := rfl
        reported := rfl }

theorem test_witness_EveryStepKeepsInvariant : ∃ s t : State, Inv s ∧ step s = .next t := by
  obtain ⟨t, h, -⟩ := exists_next (o := step midFrame) (f := State.phase) (a := .decode) (by decide +kernel)
  exact ⟨_, t, test_witness_Inv.1, h⟩

/-- For ByteSourceCallsServe and ReadIsFirstInFirstOut. -/
theorem test_witness_ByteSourceCallsServe (c : Bool) (d : Nat) :
    ∃ s s1 : State, s.cfg.bsConforming = c ∧ s.nextAnswer = (.serve d, s1) :=
  ⟨{ testState with cfg := { testCfg with bsConforming := c }, answers := [.serve d] }, _, rfl, rfl⟩

/-- For ByteSourceFailureIsFatal and both clauses of ResyncDiscardsPending. -/
theorem test_witness_ByteSourceFailureIsFatal (a : Answer) : ∃ s s1 : State, s.nextAnswer = (a, s1) :=
  ⟨{ testState with answers := [a] }, _, rfl⟩

/-- All 164 bytes; one byte too few; a source that serves none; and a read that fails, losing every byte. -/
theorem test_witness_FrameReadFillsBufferAndValidates :
    (pendingState fA).nextAnswer.1 = .serve 164
    ∧ min 164 (pendingState fA).pending.length = 164 ∧ min 164 (pendingState (zeros 163)).pending.length < 164
    ∧ min 0 (min 164 (pendingState fA).pending.length) < 164
    ∧ { pendingState fA with answers := [.fail []] }.nextAnswer.1 = .fail [] := by
  decide +kernel

set_option maxRecDepth 100000 in
theorem test_witness_PollCycleAcceptsGoodFrame :
    ∃ s s1 s2 : State, s.cfg.crcRom = crcRomContents ∧ s.lifecycle = .running ∧ s.phase = .poll ∧ s.cancelReq = false
      ∧ s.nextAnswer = (.serve 164, s1) ∧ s1.nextAnswer = (.serve 164, s2) ∧ (s.cfg.bsConforming = true ∨ 164 ≤ 164)
      ∧ s.pending.length = 164 ∧ byteOf s.pending 0 = s.cfg.headMarker ∧ (byteOf s.pending 1).toNat = 158
      ∧ (byteOf s.pending 2).toNat = 1 ∧ (byteOf s.pending 3).toNat = 2
      ∧ (bitSerial (coveredBytes s.cfg.layout (byteOf s.pending))).toNat
          = (byteOf s.pending (checksumPlace s.cfg.layout)).toNat + 256 * (byteOf s.pending (checksumPlace s.cfg.layout + 1)).toNat :=
  ⟨pendingState fA, _, _, rfl, rfl, rfl, rfl, rfl, rfl, .inl rfl, by decide +kernel, by decide +kernel, by decide +kernel,
    by decide +kernel, by decide +kernel, by decide +kernel⟩

/-- Any number of pending bytes (163, 164 and 165 among them) with any two draws: a served or a failed count, then a served or a
failed second call. -/
theorem test_witness_PollCycleWaitsAndResyncs (n : Nat) (a b : Answer) :
    ∃ s s1 s2 : State, s.lifecycle = .running ∧ s.phase = .poll ∧ s.cancelReq = false ∧ s.nextAnswer = (a, s1)
      ∧ s1.nextAnswer = (b, s2) ∧ s.pending.length = n :=
  ⟨{ pendingState (zeros n) with answers := [a, b] }, _, _, rfl, rfl, rfl, rfl, rfl, by simp [pendingState, zeros]⟩

theorem test_witness_PollCycleHasOneOutcome : ∃ s t : State, exec .pollCycle s = .next t := by
  obtain ⟨t, h, -⟩ := exists_next (o := exec .pollCycle (pendingState fA)) (f := State.phase) (a := .decode) (by decide +kernel)
  exact ⟨_, t, h⟩

theorem test_witness_StartOpensOrFails : ∃ s : State, s.lifecycle = .unopened ∧ s.srcOpen = false ∧ s.cfg.Legal :=
  ⟨{ testState with lifecycle := .unopened, srcOpen := false }, rfl, rfl, testCfg_legal⟩

theorem test_witness_StartIsRefusedElsewhere :
    (∃ s : State, s.lifecycle ≠ .unopened) ∧ ∃ s : State, s.lifecycle = .unopened ∧ ¬ s.cfg.Legal :=
  ⟨⟨testState, by decide⟩, { withPoles 0 with lifecycle := .unopened }, rfl, test_legal_poleCount⟩

theorem test_witness_CancelStopsTheRun :
    ∃ s t : State, s.cancelReq = true ∧ s.lifecycle = .running ∧ s.phase = .poll ∧ t.cancelReq = true ∧ t.lifecycle = .unopened :=
  ⟨{ testState with cancelReq := true }, { testState with cancelReq := true, lifecycle := .unopened }, rfl, rfl, rfl, rfl, rfl⟩

/-- A cancel request blocks the poll cycle; POLL blocks the channel step; DECODE blocks the cancel. -/
theorem test_witness_CoreStepsStopWhereNotEnabled :
    { testState with cancelReq := true }.cancelReq ≠ false ∧ testState.phase ≠ .decode
    ∧ ¬ ((decoding 0).lifecycle = .running ∧ (decoding 0).phase = .poll ∨ (decoding 0).lifecycle = .unopened) := by
  decide +kernel

/-- The whole buffer, and its last byte. -/
theorem test_witness_FrameWriteReadsBack : 0 + fA.length ≤ 164 ∧ 163 + [(0x8E : Byte)].length ≤ 164 := by decide +kernel

/-- For NoStepChangesConfiguration and ReportStreamIsAppendOnly. -/
theorem test_witness_NoStepChangesConfiguration :
    ∃ s t : State, step s = .next t ∧ s.nextMove.1 ≠ .reset ∧ t.reports = s.reports ++ [.frameAccept] := by
  obtain ⟨t, h, e⟩ := exists_next (o := step (pendingState fA)) (f := State.reports) (a := [.frameAccept]) (by decide +kernel)
  exact ⟨_, t, h, by decide, e⟩

/-- By a reset, and by the channel step of a gated slot. -/
theorem test_witness_OnlyGatedSlotsWriteTheStore :
    (∃ s t : State, step s = .next t ∧ t.store ≠ s.store ∧ s.nextMove.1 = .reset)
    ∧ ∃ s t : State, step s = .next t ∧ t.store ≠ s.store ∧ s.nextMove.1 = .core := by
  constructor
  · refine ⟨{ midFrame with schedule := [.reset] }, _, rfl, fun h => ?_, rfl⟩
    exact absurd (congrArg Store.valid h) (by decide)
  · obtain ⟨t, h, e⟩ := exists_next (o := step (decoding 6)) (f := State.store) (a := ⟨true, 500, 64, 100⟩) (by decide +kernel)
    exact ⟨_, t, h, by rw [e]; decide, rfl⟩

/-- In STOPPED and in FAILED, bytes arriving (P3, P4). -/
theorem test_witness_EndedRunsStayEnded (l : Lifecycle) :
    ∃ s t : State, s.lifecycle = l ∧ s.nextMove.1 ≠ .reset ∧ step s = .next t :=
  ⟨{ testState with lifecycle := l, schedule := [.arrive fA] }, _, rfl, by simp [State.nextMove], rfl⟩

/-- A store that is set, and a cancel request that is taken. -/
theorem test_witness_LatchesStaySet :
    ∃ s t : State, step s = .next t ∧ s.nextMove.1 ≠ .reset ∧ s.store.valid = true ∧ s.cancelReq = true := by
  obtain ⟨t, h, -⟩ := exists_next (o := step { midFrame with phase := .poll, cancelReq := true }) (f := State.lifecycle)
    (a := .stopped) (by decide +kernel)
  exact ⟨_, t, h, by decide, rfl, rfl⟩

end Sys2Proof.Tests
end

section
/-! PROOF. FRAME_BUF as addressable memory (R13, R22): a block write, read back byte by byte through `State.frameByte`. -/

namespace Sys2Proof.Machine

/-- Inside the written block (R13). -/
theorem State.frameByte_memWrite_inside (s : State) {a j : Nat} {bytes : List Byte} (hj : j < bytes.length)
    (hfit : a + bytes.length ≤ frameSize) : (s.memWrite a bytes).frameByte (a + j) = byteOf bytes j := by
  have hin : a ≤ a + j ∧ a + j < a + bytes.length ∧ a + j < frameSize := by omega
  have hread : (s.memWrite a bytes).frameBuf.read (a + j) = bytes[j]? := by
    rw [State.memWrite_frameBuf, Memory.read_writeBytes, if_pos hin, Nat.add_sub_cancel_left]
  rw [State.frameByte, hread]
  simp [byteOf, hj]

/-- Outside the written block (R13): the byte read before, be it written or unspecified. -/
theorem State.frameByte_memWrite_outside (s : State) {a i : Nat} {bytes : List Byte}
    (hi : i < a ∨ a + bytes.length ≤ i) : (s.memWrite a bytes).frameByte i = s.frameByte i := by
  have hout : ¬ (a ≤ i ∧ i < a + bytes.length ∧ i < frameSize) := by omega
  have hread : (s.memWrite a bytes).frameBuf.read i = s.frameBuf.read i := by
    rw [State.memWrite_frameBuf, Memory.read_writeBytes, if_neg hout]
  rw [State.frameByte, hread, State.memWrite_epoch, State.frameByte]

end Sys2Proof.Machine

namespace Sys2Proof
open Machine

/-- Settles O52: each offset lies inside the written block or outside it, and each side has its read-after-write rule. -/
theorem frameWriteReadsBack : Obligations.FrameWriteReadsBack :=
  fun s _ _ hfit => ⟨fun _ hj => s.frameByte_memWrite_inside hj hfit, fun _ hi => s.frameByte_memWrite_outside hi⟩

end Sys2Proof
end

section
/-! PROOF. What one step can do (R244, R247), with the move that was taken, and what a poll cycle and a channel step leave
unchanged (R202, R267). -/

namespace Sys2Proof.Machine

/-- How a step goes from `s`, the state whose move has been taken (R7, R241–R244, R247): one constructor per row of the
enabling table and per move of the environment. -/
inductive StepEffect (s : State) : Move → State → Prop where
  | cancel : s.cancelEnabled = true → StepEffect s .core (cancelRun s)
  | poll : s.pollEnabled = true → StepEffect s .core (pollCycle s)
  | decode : s.decodeEnabled = true → StepEffect s .core (decodeChannel s)
  | idle : s.enabledStep = none → StepEffect s .core s
  | start (r : StartResult) : s.lifecycle = .unopened → s.cfg.Legal → StepEffect s (.start r) (startRun r s)
  | startNotAccepted (r : StartResult) : s.lifecycle ≠ .unopened → StepEffect s (.start r) (s.reply .notAccepted)
  | arrive (bytes : List Byte) : StepEffect s (.arrive bytes) ({ s with pending := s.pending ++ bytes }.reply .done)
  | requestCancel : StepEffect s .requestCancel s.requestCancel
  | storeRead : StepEffect s .storeRead (s.reply (Machine.storeRead s))
  | reset : StepEffect s .reset s.hostReset

theorem execStart_effect {s t : State} {r : StartResult} (h : execStart r s = .next t) : StepEffect s (.start r) t := by
  unfold execStart at h
  split_ifs at h with hlife hlegal <;> cases h
  · exact .start r hlife hlegal
  · exact .startNotAccepted r hlife

/-- A core move runs the enabled step, if there is one (R244). -/
theorem coreMove_effect {s t : State} {i : Instr} (he : s.enabledStep = some i) (h : exec i s = .next t) :
    StepEffect s .core t := by
  rcases State.enabledStep_cases he with ⟨rfl, hi⟩ | ⟨rfl, hi⟩ | ⟨rfl, hi⟩
  · rw [exec, execCancel, if_pos hi] at h
    cases h
    exact .cancel hi
  · rw [exec, execPollCycle, if_pos hi] at h
    cases h
    exact .poll hi
  · rw [exec, execDecodeChannel, if_pos hi] at h
    cases h
    exact .decode hi

/-- Every step is the effect of the move it takes: `step_cases` with the move kept. -/
theorem step_effect {s t : State} (h : step s = .next t) :
    ∃ ms n, StepEffect { s with schedule := ms, moveCount := n } s.nextMove.1 t := by
  obtain ⟨ms, n, hs⟩ := s.nextMove_frame
  refine ⟨ms, n, ?_⟩
  rw [step_eq, hs] at h
  cases hm : s.nextMove.1 with
  | core =>
    rw [hm, State.selectFor] at h
    cases he : State.enabledStep { s with schedule := ms, moveCount := n } with
    | none => rw [he] at h; cases h; exact .idle he
    | some i => rw [he] at h; exact coreMove_effect he h
  | start r => rw [hm] at h; exact execStart_effect h
  | arrive bytes => rw [hm] at h; cases h; exact .arrive bytes
  | requestCancel => rw [hm] at h; cases h; exact .requestCancel
  | storeRead => rw [hm] at h; cases h; exact .storeRead
  | reset => rw [hm] at h; cases h; exact .reset

theorem State.decodeEnabled_iff (s : State) : s.decodeEnabled = true ↔ s.lifecycle = .running ∧ s.phase = .decode := by
  simp [State.decodeEnabled]

theorem State.pollEnabled_iff (s : State) :
    s.pollEnabled = true ↔ s.lifecycle = .running ∧ s.phase = .poll ∧ s.cancelReq = false := by
  simp [State.pollEnabled, and_assoc]

theorem State.cancelEnabled_iff (s : State) :
    s.cancelEnabled = true ↔
      s.cancelReq = true ∧ ((s.lifecycle = .running ∧ s.phase = .poll) ∨ s.lifecycle = .unopened) := by
  simp [State.cancelEnabled]

/-- `t` has the store and the cancel request of `s`, and the report stream of `s` possibly with more events behind it. -/
structure OnlyReports (s t : State) : Prop where
  store : t.store = s.store
  cancelReq : t.cancelReq = s.cancelReq
  reports : ∃ es, t.reports = s.reports ++ es

/-- An operation that emits one event. -/
theorem OnlyReports.of_event {s t : State} {e : Event} (hstore : t.store = s.store) (hcancel : t.cancelReq = s.cancelReq)
    (he : t.reports = s.reports ++ [e]) : OnlyReports s t :=
  ⟨hstore, hcancel, [e], he⟩

/-- An operation that emits nothing. -/
theorem OnlyReports.of_silent {s t : State} (hstore : t.store = s.store) (hcancel : t.cancelReq = s.cancelReq)
    (he : t.reports = s.reports) : OnlyReports s t :=
  ⟨hstore, hcancel, [], by rw [he, List.append_nil]⟩

/-- The validator (R137, R263). -/
theorem validateFrame_onlyReports (s : State) : OnlyReports s (validateFrame s) := by
  rcases validateFrame_cases s with ⟨v, e, h, -⟩ | ⟨v, h⟩ <;> rw [h]
  · exact .of_event rfl rfl rfl
  · exact .of_event rfl rfl rfl

/-- A poll cycle, in each of its outcomes (R267). -/
theorem pollCycle_onlyReports (s : State) : OnlyReports s (pollCycle s) := by
  obtain ⟨as, n, p, ⟨op, h⟩ | ⟨k, h⟩ | h | ⟨k, h⟩ | ⟨bs, -, h⟩⟩ := pollCycle_cases s <;> rw [h]
  · exact .of_event rfl rfl rfl
  · exact .of_event rfl rfl rfl
  · exact .of_silent rfl rfl rfl
  · exact .of_event rfl rfl rfl
  · exact { validateFrame_onlyReports (State.memWrite { s with pending := p, answers := as, drawCount := n } 0 bs) with }

/-- START in UNOPENED (R241). -/
theorem startRun_onlyReports (r : StartResult) (s : State) : OnlyReports s (startRun r s) := by
  cases r with
  | ok => exact .of_silent rfl rfl rfl
  | fail => exact .of_event rfl rfl rfl

/-! A channel step (R202): it may write the store, but does not clear STORE_VALID. -/

@[simp] theorem decodeChannel_cancelReq (s : State) : (decodeChannel s).cancelReq = s.cancelReq := by
  rcases decodeChannel_cases s with h | ⟨v, c, t, r, h⟩ <;> rw [h]

theorem decodeChannel_storeValid {s : State} (hv : s.store.valid = true) : (decodeChannel s).store.valid = true := by
  rcases decodeChannel_cases s with h | ⟨v, c, t, r, h⟩ <;> rw [h]
  exact hv

theorem decodeChannel_reports_append (s : State) : ∃ es, (decodeChannel s).reports = s.reports ++ es := by
  rcases decodeChannel_cases s with h | ⟨v, c, t, r, h⟩ <;> rw [h]
  · exact ⟨[], (List.append_nil _).symm⟩
  · exact ⟨[.storeUpdate v c t, .channelReport s.chIdx r], List.append_assoc _ _ _⟩

end Sys2Proof.Machine
end

section
/-! PROOF. The invariant holds after reset and every step keeps it (R22, R59, R207, R244, R292, R301). -/

namespace Sys2Proof.Machine

/-! ### How the state's updates keep the invariant -/

/-- An event that the invariant's measures of the report stream do not count: neither a store update nor a channel report. -/
def Event.quiet (e : Event) : Prop :=
  lastStored [e] = none ∧ storeUpdateCount [e] = 0 ∧ channelReportCount [e] = 0

/-- After any reset of a legal configuration. -/
theorem resetWith_inv {c : Config} (hc : c.Legal) (epoch : Nat) : Inv (State.resetWith c epoch) where
  config := hc
  memory := rfl
  decoding := by intro h; cases h
  written := by intro h; cases h
  sourceOpen := by intro h; cases h
  sourceClosed _ := rfl
  stored := rfl
  reported := rfl

section
variable {s : State} (h : Inv s)
include h

theorem Inv.emit {e : Event} (he : e.quiet) : Inv (s.emit e) := by
  obtain ⟨hlast, hupdates, hreports⟩ := he
  refine { h with stored := ?_, reported := ?_ }
  · rw [State.emit_reports, lastStored_append, hlast, Option.none_or]
    exact h.stored
  · rw [State.emit_reports, storeUpdateCount_append, channelReportCount_append, hupdates, hreports]
    exact h.reported

theorem Inv.reply (r : Result) : Inv (s.reply r) := { h with }

/-- DECODE is a phase of RUNNING only (R244). -/
theorem Inv.phase_ne_decode (hlife : s.lifecycle ≠ .running) : s.phase ≠ .decode := fun hp => hlife (h.decoding hp)

/-- Outside DECODE a transport failure is met (R243): FAILED asks nothing of the source. -/
theorem Inv.onFail (hp : s.phase ≠ .decode) (op : TransportOp) : Inv (s.onFail op) := by
  have hfailed : Inv { s with lifecycle := .failed } :=
    { h with
      decoding := fun hd => absurd hd hp
      sourceOpen := fun hl => by cases hl
      sourceClosed := fun hl => by rcases hl with hl | hl <;> cases hl }
  exact (hfailed.emit ⟨rfl, rfl, rfl⟩).reply _

/-- A whole frame written to FRAME_BUF (R22, R235). -/
theorem Inv.memWrite {bs : List Byte} (hb : bs.length = frameSize) : Inv (s.memWrite 0 bs) :=
  { h with
    memory := s.memWrite_wf 0 bs h.memory
    written := fun _ => s.frameWritten_memWrite bs hb }

/-- A store update and its channel report, in one step (R57, R203, R207). -/
theorem Inv.storeAndReport (v c : Half) (t : Word) (k : Fin 8) (r : ChannelReport) :
    Inv { s with
      store := ⟨true, v, c, t⟩
      reports := s.reports ++ [.storeUpdate v c t] ++ [.channelReport k r] } := by
  refine { h with stored := ?_, reported := ?_ }
  · simp [lastStored_append, lastStored, Store.sample]
  · simp [storeUpdateCount_append, channelReportCount_append, storeUpdateCount, channelReportCount, h.reported]

/-! ### The operations a step runs -/

/-- VALIDATE_FRAME of a written buffer in RUNNING: a rejection changes no mode, and ACCEPT may enter DECODE (R135, R136). -/
theorem Inv.validateFrame (hrun : s.lifecycle = .running) (hw : s.frameWritten) : Inv (validateFrame s) := by
  rcases validateFrame_cases s with ⟨v, e, heq, he⟩ | ⟨v, heq⟩ <;> rw [heq]
  · have hquiet : e.quiet := by
      obtain ⟨_, _, _, _, rfl⟩ | ⟨_, _, rfl⟩ := he <;> exact ⟨rfl, rfl, rfl⟩
    exact { h.emit hquiet with }
  · have haccept : Inv (s.emit .frameAccept) := h.emit ⟨rfl, rfl, rfl⟩
    exact { haccept with decoding := fun _ => hrun, written := fun _ => hw }

theorem Inv.pollCycle (hp : s.pollEnabled = true) : Inv (pollCycle s) := by
  obtain ⟨hrun, hphase, -⟩ := s.pollEnabled_iff.1 hp
  have hnd : s.phase ≠ .decode := by simp [hphase]
  obtain ⟨as, n, p, hcases⟩ := pollCycle_cases s
  have h1 : Inv { s with pending := p, answers := as, drawCount := n } := { h with }
  obtain ⟨op, heq⟩ | ⟨k, heq⟩ | heq | ⟨k, heq⟩ | ⟨bs, hb, heq⟩ := hcases <;> rw [heq]
  · exact h1.onFail hnd op
  · exact (h1.emit ⟨rfl, rfl, rfl⟩).reply _
  · exact h1.reply _
  · exact (h1.emit ⟨rfl, rfl, rfl⟩).reply _
  · exact (h1.memWrite hb).validateFrame hrun (State.frameWritten_memWrite _ bs hb)

/-- The phase a channel step ends in does not matter: RUNNING and a written buffer allow both (R205). -/
theorem Inv.decodeChannel (hd : s.decodeEnabled = true) : Inv (decodeChannel s) := by
  obtain ⟨hrun, hphase⟩ := s.decodeEnabled_iff.1 hd
  have hw : s.frameWritten := h.written hphase
  rcases decodeChannel_cases s with heq | ⟨v, c, t, r, heq⟩ <;> rw [heq]
  · exact { h with decoding := fun _ => hrun, written := fun _ => hw }
  · exact { h.storeAndReport v c t s.chIdx r with decoding := fun _ => hrun, written := fun _ => hw }

/-- CANCEL (R242) closes the source in RUNNING; in UNOPENED it is closed already (R30). -/
theorem Inv.cancelRun (hc : s.cancelEnabled = true) : Inv (cancelRun s) := by
  obtain ⟨-, hwhere⟩ := s.cancelEnabled_iff.1 hc
  have hnd : s.phase ≠ .decode := by
    obtain ⟨-, hphase⟩ | hlife := hwhere
    · simp [hphase]
    · exact h.phase_ne_decode (by simp [hlife])
  have hclosed : (Machine.cancelRun s).srcOpen = false := by
    obtain ⟨hrun, -⟩ | hlife := hwhere
    · simp [hrun]
    · simp [hlife, h.sourceClosed (.inl hlife)]
  have hstop : Inv (s.emit .stopped) := h.emit ⟨rfl, rfl, rfl⟩
  constructor
  case config => rw [cancelRun_cfg]; exact h.config
  case memory => rw [cancelRun_frameBuf]; exact h.memory
  case decoding => rw [cancelRun_phase]; exact fun hd => absurd hd hnd
  case written => rw [cancelRun_phase]; exact fun hd => absurd hd hnd
  case sourceOpen => rw [cancelRun_lifecycle]; intro hl; cases hl
  case sourceClosed => exact fun _ => hclosed
  case stored => rw [cancelRun_store, cancelRun_reports]; exact hstop.stored
  case reported => rw [cancelRun_reports]; exact hstop.reported

/-- START in UNOPENED (R241): OK opens the source and enters RUNNING and POLL, FAIL is the transport failure of R243. -/
theorem Inv.startRun (hlife : s.lifecycle = .unopened) (r : StartResult) : Inv (startRun r s) := by
  cases r with
  | ok =>
    exact { h with
      decoding := fun hd => by cases hd
      written := fun hd => by cases hd
      sourceOpen := fun _ => rfl
      sourceClosed := fun hl => by rcases hl with hl | hl <;> cases hl }
  | fail =>
    have hnr : s.lifecycle ≠ .running := by simp [hlife]
    have hclosed : Inv { s with srcOpen := false } :=
      { h with sourceOpen := fun hl => absurd hl hnr, sourceClosed := fun _ => rfl }
    exact hclosed.onFail (h.phase_ne_decode hnr) _

/-- Every way a step goes keeps the invariant. -/
theorem Inv.stepEffect {m : Move} {t : State} (he : StepEffect s m t) : Inv t := by
  cases he with
  | cancel hc => exact h.cancelRun hc
  | poll hp => exact h.pollCycle hp
  | decode hd => exact h.decodeChannel hd
  | idle _ => exact h
  | start r hlife _ => exact h.startRun hlife r
  | startNotAccepted r _ => exact h.reply _
  | arrive bytes => exact { h with }
  | requestCancel => exact { h with }
  | storeRead => exact h.reply _
  | reset => exact { resetWith_inv h.config (s.epoch + 1) with }

end

end Sys2Proof.Machine

namespace Sys2Proof
open Machine

/-- Settles O53: the configuration of State.reset is legal, and reset clears the rest. -/
theorem invariantHoldsAtReset : Obligations.InvariantHoldsAtReset :=
  resetWith_inv Config.configured_legal 0

/-- Settles O54: taking a move touches no field of the invariant, and each way a step goes keeps it. -/
theorem everyStepKeepsInvariant : Obligations.EveryStepKeepsInvariant := by
  intro s t hs h
  obtain ⟨ms, n, he⟩ := step_effect h
  have hs1 : Inv { s with schedule := ms, moveCount := n } := { hs with }
  exact hs1.stepEffect he

end Sys2Proof
end

section
/-! PROOF. What only some steps change: the store, the report stream and the two latches (R27, R31, R33, R35). -/

namespace Sys2Proof.Machine

/-- A closed gate stores nothing (R206). -/
theorem gateOpen_of_decodeChannel_store_ne {s : State} (h : (decodeChannel s).store ≠ s.store) :
    gateOpen (s.channelFields s.chIdx) (scaleRpm s.cfg (s.channelFields s.chIdx).erpm) = true := by
  by_contra hclosed
  rw [decodeChannel_closed s (Bool.eq_false_of_not_eq_true hclosed)] at h
  exact h rfl

/-- Of the core's steps only a channel step with an open gate changes the store; of the moves, reset (R27). -/
theorem StepEffect.store_changed {s t : State} {m : Move} (he : StepEffect s m t) (hne : t.store ≠ s.store) :
    m = .reset ∨ (m = .core ∧ s.decodeEnabled = true ∧
      gateOpen (s.channelFields s.chIdx) (scaleRpm s.cfg (s.channelFields s.chIdx).erpm) = true) := by
  cases he with
  | cancel _ => exact absurd (cancelRun_store s) hne
  | poll _ => exact absurd (pollCycle_onlyReports s).store hne
  | decode hd => exact .inr ⟨rfl, hd, gateOpen_of_decodeChannel_store_ne hne⟩
  | start r _ _ => exact absurd (startRun_onlyReports r s).store hne
  | reset => exact .inl rfl
  | idle _ | startNotAccepted _ _ | arrive _ | requestCancel | storeRead => exact absurd rfl hne

/-- Only reset shortens the report stream (R33). -/
theorem StepEffect.reports_append {s t : State} {m : Move} (he : StepEffect s m t) (hm : m ≠ .reset) :
    ∃ es, t.reports = s.reports ++ es := by
  cases he with
  | cancel _ => exact ⟨[.stopped], cancelRun_reports s⟩
  | poll _ => exact (pollCycle_onlyReports s).reports
  | decode _ => exact decodeChannel_reports_append s
  | start r _ _ => exact (startRun_onlyReports r s).reports
  | reset => exact absurd rfl hm
  | idle _ | startNotAccepted _ _ | arrive _ | requestCancel | storeRead => exact ⟨[], (List.append_nil _).symm⟩

/-- STORE_VALID stays set (R35). -/
theorem StepEffect.storeValid_stays {s t : State} {m : Move} (he : StepEffect s m t) (hm : m ≠ .reset)
    (hv : s.store.valid = true) : t.store.valid = true := by
  cases he with
  | cancel _ => rw [cancelRun_store]; exact hv
  | poll _ => rw [(pollCycle_onlyReports s).store]; exact hv
  | decode _ => exact decodeChannel_storeValid hv
  | start r _ _ => rw [(startRun_onlyReports r s).store]; exact hv
  | reset => exact absurd rfl hm
  | idle _ | startNotAccepted _ _ | arrive _ | requestCancel | storeRead => exact hv

/-- CANCEL_REQ stays set until the CANCEL step takes it (R31, R242). -/
theorem StepEffect.cancelReq_stays {s t : State} {m : Move} (he : StepEffect s m t) (hm : m ≠ .reset)
    (hc : s.cancelReq = true) : t.cancelReq = true ∨ (t.lifecycle = .stopped ∧ t.reports = s.reports ++ [.stopped]) := by
  cases he with
  | cancel _ => exact .inr ⟨cancelRun_lifecycle s, cancelRun_reports s⟩
  | poll _ => rw [(pollCycle_onlyReports s).cancelReq]; exact .inl hc
  | decode _ => rw [decodeChannel_cancelReq]; exact .inl hc
  | start r _ _ => rw [(startRun_onlyReports r s).cancelReq]; exact .inl hc
  | reset => exact absurd rfl hm
  | requestCancel => exact .inl rfl
  | idle _ | startNotAccepted _ _ | arrive _ | storeRead => exact .inl hc

end Sys2Proof.Machine

namespace Sys2Proof
open Machine

/-- Settles O57: taking a move leaves every field the gate reads. -/
theorem onlyGatedSlotsWriteTheStore : Obligations.OnlyGatedSlotsWriteTheStore := by
  intro s t h hne
  obtain ⟨ms, n, he⟩ := step_effect h
  obtain hreset | ⟨hcore, hd, hgate⟩ := he.store_changed hne
  · exact .inl hreset
  · obtain ⟨hrun, hphase⟩ := (State.decodeEnabled_iff _).1 hd
    exact .inr ⟨hcore, hrun, hphase, hgate⟩

/-- Settles O59: each way a step goes but reset appends. -/
theorem reportStreamIsAppendOnly : Obligations.ReportStreamIsAppendOnly := by
  intro s t h
  obtain ⟨ms, n, he⟩ := step_effect h
  by_cases hm : s.nextMove.1 = .reset
  · exact .inl hm
  · exact .inr (he.reports_append hm)

/-- Settles O60: each latch by the way the step goes. -/
theorem latchesStaySet : Obligations.LatchesStaySet := by
  intro s t h hm
  obtain ⟨ms, n, he⟩ := step_effect h
  exact ⟨he.storeValid_stays hm, he.cancelReq_stays hm⟩

end Sys2Proof
end

section
/-! PROOF. The values after reset (R9, R36), the temperature ROM included (R162). -/

namespace Sys2Proof.Machine

/-- In a legal configuration the ROM holds TEMP_SCAN's value as a number, not modulo 2^16 (R162, R166 W10). -/
theorem tempDecode_toInt {c : Config} (hc : c.Legal) (r : Byte) : (tempDecode c r).toInt = tempScan c.tempTable r := by
  obtain ⟨-, htable, -, hrom⟩ := hc
  obtain ⟨hlo, hhi⟩ := tempScan_bound htable r
  rw [tempDecode, hrom, tempRomContents_getD]
  exact BitVec.toInt_ofInt_eq_self (by decide) (by omega) (by omega)

end Sys2Proof.Machine

namespace Sys2Proof
open Machine

/-- Settles O9: the listed values stand in `State.resetWith`, and the TEMP_ROM of a legal configuration holds TEMP_SCAN's. -/
theorem resetStateIsAsListed : Obligations.ResetStateIsAsListed :=
  ⟨rfl, rfl, rfl, rfl, rfl, rfl, rfl, rfl, rfl, rfl, rfl, tempDecode_toInt Config.configured_legal⟩

end Sys2Proof
end

section
/-! PROOF. A read that is served (R60, R236): it splits PENDING at the number of bytes it returns. -/

namespace Sys2Proof.Machine

/-- BS_READ with its draw served (R236), in terms of the state before the call. -/
theorem exec_bsRead_serve {s s1 : State} {d : Nat} (n : Nat) (h : s.nextAnswer = (.serve d, s1)) :
    exec (.bsRead n) s = .next ({ s1 with
      pending := s.pending.drop (readCount s.cfg.bsConforming d n s.pending.length) }.reply
        (.bytes (s.pending.take (readCount s.cfg.bsConforming d n s.pending.length)))) := by
  have hexec : exec (.bsRead n) s = execBsRead n s := rfl
  obtain ⟨as, k, rfl⟩ := State.nextAnswer_state h
  rw [hexec, execBsRead, bsRead_serve h]

end Sys2Proof.Machine

namespace Sys2Proof
open Machine

/-- Settles O41: a served read returns the front of PENDING and leaves the rest, split at `readCount`, which is at most `n`. -/
theorem readIsFirstInFirstOut : Obligations.ReadIsFirstInFirstOut := by
  intro s s1 d n h
  have hcount := readCount_le s.cfg.bsConforming d n s.pending.length
  refine ⟨_, _, exec_bsRead_serve n h, rfl, List.take_append_drop _ _, ?_⟩
  exact (List.length_take_le _ _).trans (hcount.trans (Nat.min_le_left _ _))

end Sys2Proof
end

section
/-! PROOF. The header test in its two forms (R84, R132), and the decoder by the header's fields (R80, R90). -/

namespace Sys2Proof

/-- Bytes 0..3 are HEAD_MARKER, 158, 1, 2 (R132). -/
abbrev HeaderIsLegal (headMarker : Byte) (rd : Nat → Byte) : Prop :=
  rd 0 = headMarker ∧ (rd 1).toNat = 158 ∧ (rd 2).toNat = 1 ∧ (rd 3).toNat = 2

/-- The mask keeps the low 24 bits, the extract the high 8. -/
theorem headerWordLegal_iff_toNat (m : Byte) (hw : Word) :
    headerWordLegal m hw = true ↔ hw.toNat % 2 ^ 24 = 0x9E0102 ∧ hw.toNat / 2 ^ 24 = m.toNat := by
  have hw_lt := hw.isLt
  have hmask : (hw &&& 0x00FFFFFF#32).toNat = hw.toNat % 2 ^ 24 := by
    rw [BitVec.toNat_and]
    exact Nat.and_two_pow_sub_one_eq_mod hw.toNat 24
  have htop : (hw.extractLsb' 24 8).toNat = hw.toNat / 2 ^ 24 := by
    rw [BitVec.extractLsb'_toNat, Nat.shiftRight_eq_div_pow]
    omega
  rw [headerWordLegal, Bool.and_eq_true, beq_iff_eq, beq_iff_eq, ← BitVec.toNat_inj, ← BitVec.toNat_inj, hmask, htop]
  rfl

/-- The header word is big-endian (R84). -/
theorem headerWord_toNat (h l v c : Byte) :
    (h ++ l ++ v ++ c).toNat = 2 ^ 24 * h.toNat + 2 ^ 16 * l.toNat + 2 ^ 8 * v.toNat + c.toNat := by
  have hl := l.isLt
  have hv := v.isLt
  have hc := c.isLt
  simp only [BitVec.toNat_append, Nat.shiftLeft_eq, Nat.mul_comm _ (2 ^ 8), ← Nat.two_pow_add_eq_or_of_lt, hl, hv, hc]
  omega

/-- The two forms of the header test agree (R84, R132). -/
theorem headerWordLegal_append (m h l v c : Byte) :
    headerWordLegal m (h ++ l ++ v ++ c) = true ↔ h = m ∧ l.toNat = 158 ∧ v.toNat = 1 ∧ c.toNat = 2 := by
  have hl := l.isLt
  have hv := v.isLt
  have hc := c.isLt
  rw [headerWordLegal_iff_toNat, headerWord_toNat, ← BitVec.toNat_inj]
  omega

theorem headerWordLegal_headerWordAt (m : Byte) (rd : Nat → Byte) :
    headerWordLegal m (headerWordAt rd) = true ↔ HeaderIsLegal m rd :=
  headerWordLegal_append m (rd 0) (rd 1) (rd 2) (rd 3)

/-! The decoder's three answers (R80, R84, R90). -/

theorem decode_legal {h : Byte} {lay : Layout} {bytes : List Byte} (hlen : bytes.length = frameSize)
    (hleg : HeaderIsLegal h (byteOf bytes)) : decode h lay bytes = .ok (.telemetryFrame (frameAt lay (byteOf bytes))) := by
  rw [decode, if_pos hlen, if_pos ((headerWordLegal_headerWordAt _ _).2 hleg)]

theorem decode_badHeader {h : Byte} {lay : Layout} {bytes : List Byte} (hlen : bytes.length = frameSize)
    (hbad : ¬ HeaderIsLegal h (byteOf bytes)) :
    decode h lay bytes = .error (.badHeader (byteOf bytes 0) (byteOf bytes 1) (byteOf bytes 2) (byteOf bytes 3)) := by
  rw [decode, if_pos hlen, if_neg (mt (headerWordLegal_headerWordAt _ _).1 hbad)]

theorem decode_wrongLength {h : Byte} {lay : Layout} {bytes : List Byte} (hlen : bytes.length ≠ frameSize) :
    decode h lay bytes = .error (.wrongLength bytes.length) := by
  rw [decode, if_neg hlen]

/-- What the decoder answers an instruction for (R80, R84). -/
theorem decode_eq_ok_iff {h : Byte} {lay : Layout} {bytes : List Byte} {i : Instr} :
    decode h lay bytes = .ok i ↔
      bytes.length = frameSize ∧ HeaderIsLegal h (byteOf bytes) ∧ i = .telemetryFrame (frameAt lay (byteOf bytes)) := by
  by_cases hlen : bytes.length = frameSize
  · by_cases hleg : HeaderIsLegal h (byteOf bytes)
    · rw [decode_legal hlen hleg, Except.ok.injEq]
      exact ⟨fun hi => ⟨hlen, hleg, hi.symm⟩, fun ⟨_, _, hi⟩ => hi.symm⟩
    · rw [decode_badHeader hlen hleg]
      exact ⟨nofun, fun ⟨_, hl, _⟩ => absurd hl hleg⟩
  · rw [decode_wrongLength hlen]
    exact ⟨nofun, fun ⟨hl, _, _⟩ => absurd hl hlen⟩

/-- Settles O18: the word form and the field form, over the header word as a number. -/
theorem headerWordFormsAgree : Obligations.HeaderWordFormsAgree := headerWordLegal_append

/-- Settles O3: the decoder's three answers, by the length and the header's fields. -/
theorem headerDecidesLegality : Obligations.HeaderDecidesLegality := by
  intro h lay bytes
  split_ifs with hlen hleg
  · exact ⟨_, decode_legal hlen hleg⟩
  · exact decode_badHeader hlen hleg
  · exact decode_wrongLength hlen

end Sys2Proof
end

section
/-! PROOF. A frame and its 164 bytes, field by field and back (R81–R87). -/

namespace Sys2Proof

/-- The eight channel records, in wire order (R85). -/
def Frame.channels (f : Frame) : List Channel := [f.ch0, f.ch1, f.ch2, f.ch3, f.ch4, f.ch5, f.ch6, f.ch7]

/-- HEAD to RESERVED, offsets 0..5 (R82). -/
def encodeHead (headMarker : Byte) (f : Frame) : List Byte :=
  [headMarker, expectedLength, expectedVersion, expectedCommand, hiByte f.reserved, loByte f.reserved]

/-- The three parts of a frame (R81). -/
theorem encodeFrame_eq_parts (h : Byte) (lay : Layout) (f : Frame) :
    encodeFrame h lay f = encodeHead h f ++ (f.channels.flatMap encodeChannel ++ encodeTail lay f) := by
  simp [encodeFrame, encodeHead, Frame.channels]

/-! ### Decoding what was encoded -/

/-- Record `k` of a run of encoded records behind `pre` (R85). -/
theorem channelAt_flatMap (pre suf : List Byte) (cs : List Channel) (k : Nat) (hk : k < cs.length) :
    channelAt (byteOf (pre ++ (cs.flatMap encodeChannel ++ suf))) (pre.length + channelSize * k) = cs[k] := by
  induction cs generalizing pre k with
  | nil => cases hk
  | cons c cs ih =>
    cases k with
    | zero =>
      rw [List.flatMap_cons, List.append_assoc]
      exact channelAt_append pre _ c
    | succ k =>
      have hrest := ih (pre ++ encodeChannel c) k (Nat.lt_of_succ_lt_succ hk)
      rw [List.length_append, encodeChannel_length, Nat.add_assoc, Nat.add_comm channelSize, ← Nat.mul_succ, List.append_assoc] at hrest
      rwa [List.flatMap_cons, List.append_assoc, List.getElem_cons_succ]

theorem channelAt_encodeFrame (h : Byte) (lay : Layout) (f : Frame) (k : Nat) (hk : k < numChannels) :
    channelAt (byteOf (encodeFrame h lay f)) (channelOffset k) = f.channels[k]'hk := by
  rw [encodeFrame_eq_parts]
  exact channelAt_flatMap (encodeHead h f) (encodeTail lay f) f.channels k hk

theorem reserved_encodeFrame (h : Byte) (lay : Layout) (f : Frame) :
    be16At (byteOf (encodeFrame h lay f)) 4 = f.reserved :=
  joinBytes_hiByte_loByte f.reserved

/-- The four unassigned bytes, before or behind the checksum (R10, R92). -/
theorem unassigned_encodeFrame (h : Byte) (lay : Layout) (f : Frame) (j : Nat) (hj : j < 4) :
    byteOf (encodeFrame h lay f) (lay.unassignedOffset + j) = byteOf [f.un0, f.un1, f.un2, f.un3] j := by
  cases lay with
  | a => exact (byteOf_encodeFrame_tail h .a f j).trans (byteOf_append_left [f.un0, f.un1, f.un2, f.un3] _ j hj)
  | b =>
    have htail := byteOf_encodeFrame_tail h .b f (2 + j)
    rw [← Nat.add_assoc] at htail
    exact htail.trans (byteOf_append_right [loByte f.checksum, hiByte f.checksum] _ j)
  | c => exact (byteOf_encodeFrame_tail h .c f j).trans (byteOf_append_left [f.un0, f.un1, f.un2, f.un3] _ j hj)

/-- Every field of a frame is where the decoder reads it (R81). -/
theorem frameAt_encodeFrame (h : Byte) (lay : Layout) (f : Frame) : frameAt lay (byteOf (encodeFrame h lay f)) = f := by
  have hch := channelAt_encodeFrame h lay f
  have hun := unassigned_encodeFrame h lay f
  have hres := reserved_encodeFrame h lay f
  have hsum := le16At_encodeFrame h lay f
  rw [frameAt, hres, hsum, hch 0 (by decide), hch 1 (by decide), hch 2 (by decide), hch 3 (by decide), hch 4 (by decide),
    hch 5 (by decide), hch 6 (by decide), hch 7 (by decide), hun 1 (by decide), hun 2 (by decide), hun 3 (by decide),
    ← Nat.add_zero lay.unassignedOffset, hun 0 (by decide)]
  rfl

theorem headerIsLegal_encodeFrame (h : Byte) (lay : Layout) (f : Frame) : HeaderIsLegal h (byteOf (encodeFrame h lay f)) :=
  ⟨rfl, rfl, rfl, rfl⟩

/-! ### Encoding what was decoded -/

/-- The first `n` records, read and encoded again, are the bytes from CHANNEL_BASE on (R85). -/
theorem flatMap_encodeChannel_channelAt (rd : Nat → Byte) (n : Nat) :
    ((List.range n).map (fun k => channelAt rd (channelOffset k))).flatMap encodeChannel
      = (List.range (channelSize * n)).map (fun j => rd (channelBase + j)) := by
  induction n with
  | zero => rfl
  | succ n ih =>
    rw [List.range_succ, List.map_append, List.flatMap_append, ih, Nat.mul_succ, List.range_add, List.map_append]
    simp [encodeChannel_channelAt, channelOffset, Nat.add_assoc]

theorem encodeTail_frameAt (lay : Layout) (rd : Nat → Byte) :
    encodeTail lay (frameAt lay rd) = (List.range 6).map (fun j => rd (158 + j)) := by
  cases lay <;> simp only [encodeTail, frameAt, le16At, hiByte_joinBytes, loByte_joinBytes] <;> rfl

theorem encodeHead_frameAt {h : Byte} {rd : Nat → Byte} (lay : Layout) (hleg : HeaderIsLegal h rd) :
    encodeHead h (frameAt lay rd) = (List.range channelBase).map rd := by
  obtain ⟨rfl, hl, hv, hc⟩ := hleg
  have hl' : rd 1 = expectedLength := BitVec.eq_of_toNat_eq hl
  have hv' : rd 2 = expectedVersion := BitVec.eq_of_toNat_eq hv
  have hc' : rd 3 = expectedCommand := BitVec.eq_of_toNat_eq hc
  simp only [encodeHead, frameAt, be16At, hiByte_joinBytes, loByte_joinBytes, ← hl', ← hv', ← hc']
  rfl

/-- Encoding the fields read gives the bytes back, those of the header because it is legal (R80, R81). -/
theorem encodeFrame_frameAt {h : Byte} {rd : Nat → Byte} (lay : Layout) (hleg : HeaderIsLegal h rd) :
    encodeFrame h lay (frameAt lay rd) = (List.range frameSize).map rd := by
  have hchannels : (frameAt lay rd).channels.flatMap encodeChannel = (List.range 152).map (fun j => rd (6 + j)) :=
    flatMap_encodeChannel_channelAt rd 8
  have hrange : List.range (6 + 152 + 6) = List.range 6 ++ (List.range 152).map (6 + ·) ++ (List.range 6).map (158 + ·) := by
    rw [List.range_add, List.range_add]
  rw [encodeFrame_eq_parts, encodeHead_frameAt lay hleg, hchannels, encodeTail_frameAt]
  simp [frameSize, hrange, Function.comp_def]

/-- Settles O1: the header is legal, and every field is where the decoder reads it. -/
theorem decodeEncodeRoundTrip : Obligations.DecodeEncodeRoundTrip := by
  intro h lay f
  rw [decode_legal (encodeFrame_length h lay f) (headerIsLegal_encodeFrame h lay f), frameAt_encodeFrame]

/-- Settles O2: the header's legality fixes bytes 0..3, and every other byte is in a field. -/
theorem encodeDecodeRoundTrip : Obligations.EncodeDecodeRoundTrip := by
  intro h lay bytes i hok
  obtain ⟨hlen, hleg, rfl⟩ := decode_eq_ok_iff.1 hok
  rw [encode, encodeFrame_frameAt lay hleg, ← hlen, map_byteOf_range]

end Sys2Proof
end

section
/-! PROOF. A table word by its three fixed bytes (R84). -/

namespace Sys2Proof

theorem headerIsLegal_tableBytes_iff (nbits w : Nat) :
    HeaderIsLegal (tableHeadMarker nbits w) (byteOf (tableBytes nbits w)) ↔
      (byteAtBit (w % 2 ^ nbits) 16).toNat = 158 ∧ (byteAtBit (w % 2 ^ nbits) 8).toNat = 1
        ∧ (byteAtBit (w % 2 ^ nbits) 0).toNat = 2 :=
  and_iff_right rfl

/-- The decoder on a table word, whose top byte is its own HEAD_MARKER (log 7). -/
theorem decodeTableWord_eq (nbits w : Nat) :
    decodeTableWord nbits w =
      if HeaderIsLegal (tableHeadMarker nbits w) (byteOf (tableBytes nbits w)) then
        some (.telemetryFrame (frameAt .a (byteOf (tableBytes nbits w))))
      else none := by
  have hlen := tableBytes_length nbits w
  split_ifs with hleg
  · rw [decodeTableWord, decode_legal hlen hleg]
  · rw [decodeTableWord, decode_badHeader hlen hleg]

/-- Settles O4: the three fixed bytes of each word. -/
theorem tableWordsDecodeAsListed : Obligations.TableWordsDecodeAsListed := by
  simp only [Obligations.TableWordsDecodeAsListed, decodeTableWord_eq, headerIsLegal_tableBytes_iff]
  exact ⟨⟨_, if_pos (by decide)⟩, ⟨_, if_pos (by decide)⟩, if_neg (by decide), if_neg (by decide), if_neg (by decide)⟩

end Sys2Proof
end

section
/-! PROOF. CRC_COMPUTE by the ROM of R110 is the bit-serial CRC of R115, byte by byte. -/

namespace Sys2Proof

/-- While no 1 leaves bit 15, the generator only shifts (R110). -/
theorem crcShifts_of_lt (n : Nat) (c : Half) (hc : c.toNat * 2 ^ n < 2 ^ 16) : crcShifts n c = c <<< n := by
  induction n generalizing c with
  | zero => rw [crcShifts, BitVec.shiftLeft_zero]
  | succ n ih =>
    have hpos : 1 ≤ 2 ^ n := Nat.one_le_two_pow
    have hlt : 2 * c.toNat * 2 ^ n < 2 ^ 16 := by rwa [Nat.mul_comm 2, Nat.mul_assoc, ← Nat.pow_succ']
    have hsmall : 2 * c.toNat < 2 ^ 16 := lt_of_le_of_lt (Nat.le_mul_of_pos_right _ hpos) hlt
    have hmsb : c.msb = false := BitVec.msb_eq_false_iff_two_mul_lt.2 hsmall
    have hshift : crcShift c = c <<< 1 := by rw [crcShift, hmsb]; rfl
    have hnat : (c <<< 1).toNat = 2 * c.toNat := by
      rw [BitVec.toNat_shiftLeft, Nat.shiftLeft_eq, Nat.mod_eq_of_lt] <;> omega
    rw [crcShifts, hshift, ih _ (by rwa [hnat]), ← BitVec.shiftLeft_add, Nat.add_comm]

end Sys2Proof

namespace Sys2Proof.Machine

/-- CRC_STEP's index (R111) is a byte. -/
theorem crcIndex_eq (acc : Half) (b : Byte) :
    ((acc >>> 8) ^^^ b.setWidth 16) &&& 0xFF#16 = (hiByte acc ^^^ b).setWidth 16 := by
  have hlt := (hiByte acc ^^^ b).isLt
  rw [BitVec.toNat_xor, hiByte_toNat] at hlt
  apply BitVec.eq_of_toNat_eq
  rw [BitVec.toNat_and, BitVec.toNat_xor, BitVec.toNat_ushiftRight, Nat.shiftRight_eq_div_pow,
    BitVec.toNat_setWidth_of_le (by decide), BitVec.toNat_setWidth_of_le (by decide), BitVec.toNat_xor, hiByte_toNat]
  exact (Nat.and_two_pow_sub_one_eq_mod _ 8).trans (Nat.mod_eq_of_lt hlt)

/-- A register is the exclusive-or of its two bytes in place. -/
theorem loByte_xor_hiByte (acc : Half) : (loByte acc).setWidth 16 ^^^ ((hiByte acc).setWidth 16 <<< 8) = acc := by
  ext i hi
  by_cases hlow : i < 8
  · simp [loByte, hlow, BitVec.getLsbD_eq_getElem hi]
  · have hbit : 8 + (i - 8) = i ∧ i - 8 < 8 := by omega
    simp [loByte, hiByte, hlow, hbit, BitVec.getLsbD_eq_getElem hi]

/-- CRC_STEP (R111) with the generated table (R110). -/
theorem crcStep_eq_crcRomEntry (acc : Half) (b : Byte) :
    crcStep crcRomContents acc b = (acc <<< 8) ^^^ crcRomEntry (hiByte acc ^^^ b) := by
  have hidx : ((hiByte acc ^^^ b).setWidth 16).toNat = (hiByte acc ^^^ b).toNat := BitVec.toNat_setWidth_of_le (by decide)
  rw [crcStep, crcIndex_eq, hidx, crcRomContents_getD]
  exact BitVec.and_allOnes

/-- No 1 of the lower byte leaves bit 15 in eight steps. -/
theorem crcShifts_loByte (acc : Half) : crcShifts 8 ((loByte acc).setWidth 16) = acc <<< 8 := by
  have hlt := (loByte acc).isLt
  have hnat : ((loByte acc).setWidth 16).toNat = acc.toNat % 256 := by
    rw [BitVec.toNat_setWidth_of_le (by decide), loByte_toNat]
  rw [crcShifts_of_lt _ _ (by omega)]
  apply BitVec.eq_of_toNat_eq
  rw [BitVec.toNat_shiftLeft, BitVec.toNat_shiftLeft, hnat, Nat.shiftLeft_eq, Nat.shiftLeft_eq]
  omega

/-- One table step is eight bit-serial steps (R115): by linearity, the lower byte only shifts and the upper one is the table's. -/
theorem crcStep_eq_bitSerialByte (acc : Half) (b : Byte) : crcStep crcRomContents acc b = bitSerialByte acc b := by
  have hsplit : acc ^^^ (b.setWidth 16 <<< 8) = (loByte acc).setWidth 16 ^^^ ((hiByte acc ^^^ b).setWidth 16 <<< 8) := by
    rw [BitVec.setWidth_xor, BitVec.shiftLeft_xor_distrib, ← BitVec.xor_assoc, loByte_xor_hiByte]
  rw [crcStep_eq_crcRomEntry, bitSerialByte, hsplit, crcShifts_xor, crcShifts_loByte, crcRomEntry]

/-- CRC_COMPUTE is the bit-serial CRC (R112, R115). -/
theorem crcOf_eq_bitSerial (bytes : List Byte) : crcOf crcRomContents bytes = bitSerial bytes := by
  have hstep : crcStep crcRomContents = bitSerialByte := funext₂ crcStep_eq_bitSerialByte
  rw [crcOf, hstep]
  rfl

/-- FRAME_CRC's range, written apart from the operation (R10, R113). -/
theorem State.crcRange_eq (s : State) : s.crcRange = coveredBytes s.cfg.layout s.frameByte := by
  have hrange (n : Nat) : s.memRead crcFirst n = (List.range n).map (fun j => s.frameByte (j + 1)) := by
    simp only [State.memRead, Nat.add_comm crcFirst]
  cases hlay : s.cfg.layout <;> rw [State.crcRange, hlay, hrange] <;> rfl

/-- Only the bytes at offsets 1..CRC_LAST count (R114). -/
theorem coveredBytes_congr {lay : Layout} {rd rd' : Nat → Byte} (h : ∀ i, 1 ≤ i → i ≤ lastCovered lay → rd i = rd' i) :
    coveredBytes lay rd = coveredBytes lay rd' := by
  cases lay <;>
  · refine List.map_congr_left fun j hj => h (j + 1) (Nat.le_add_left 1 j) ?_
    exact List.mem_range.1 hj

end Sys2Proof.Machine
end

section
/-! PROOF. TELEMETRY_FRAME: the validator on a buffer that holds an encoded frame (R84, R135). -/

namespace Sys2Proof.Machine

/-- R132's test, as the four equations. -/
theorem headerMismatch_eq_false_iff (m h l v c : Byte) :
    headerMismatch m h l v c = false ↔ h = m ∧ l.toNat = 158 ∧ v.toNat = 1 ∧ c.toNat = 2 := by
  simp [headerMismatch, ← BitVec.toNat_inj, and_assoc]

/-- VALIDATE_FRAME where HEADER_CHECK passes (R134, R135): the checksum decides. -/
theorem validateFrame_of_legalHeader {s : State} (hleg : HeaderIsLegal s.cfg.headMarker s.frameByte)
    (hrom : s.cfg.crcRom = crcRomContents) :
    let v := bitSerial (coveredBytes s.cfg.layout s.frameByte)
    validateFrame s =
      if s.checksumField = v then
        { s with crcAcc := v, phase := .decode, chIdx := 0, reports := s.reports ++ [.frameAccept], result := .done }
      else { s with crcAcc := v, reports := s.reports ++ [.rejectChecksum s.checksumField v], result := .rejected } := by
  intro v
  have hcrc : crcOf s.cfg.crcRom s.crcRange = v := by rw [hrom, crcOf_eq_bitSerial, State.crcRange_eq]
  rw [validateFrame_eq, hcrc, (headerMismatch_eq_false_iff _ _ _ _ _).2 hleg, if_neg Bool.false_ne_true, ite_not]
  rfl

/-! ### The validator on a buffer that a whole-frame write has filled (R22) -/

section
variable (s : State) {bytes : List Byte} (hlen : bytes.length = frameSize)
include hlen

theorem headerIsLegal_memWrite (m : Byte) : HeaderIsLegal m (s.memWrite 0 bytes).frameByte ↔ HeaderIsLegal m (byteOf bytes) := by
  have hbyte (i : Nat) (hi : i < frameSize) := s.frameByte_memWrite bytes hlen i hi
  rw [HeaderIsLegal, hbyte 0 (by decide), hbyte 1 (by decide), hbyte 2 (by decide), hbyte 3 (by decide)]

theorem State.checksumField_memWrite :
    (s.memWrite 0 bytes).checksumField = le16At (byteOf bytes) s.cfg.layout.checksumOffset := by
  have hfits : s.cfg.layout.checksumOffset + 1 < frameSize := by cases s.cfg.layout <;> decide
  rw [State.checksumField, State.le16, State.memWrite_cfg, le16At, s.frameByte_memWrite bytes hlen _ hfits,
    s.frameByte_memWrite bytes hlen _ (Nat.lt_of_succ_lt hfits), le16At]

theorem coveredBytes_memWrite (lay : Layout) :
    coveredBytes lay (s.memWrite 0 bytes).frameByte = coveredBytes lay (byteOf bytes) := by
  have hfits : lastCovered lay < frameSize := by cases lay <;> decide
  exact coveredBytes_congr fun i _ hi => s.frameByte_memWrite bytes hlen i (Nat.lt_of_le_of_lt hi hfits)

/-- The two outcomes for 164 bytes with a legal header (R135). -/
theorem validateFrame_memWrite (hrom : s.cfg.crcRom = crcRomContents) (hleg : HeaderIsLegal s.cfg.headMarker (byteOf bytes)) :
    let v := bitSerial (coveredBytes s.cfg.layout (byteOf bytes))
    let rx := le16At (byteOf bytes) s.cfg.layout.checksumOffset
    validateFrame (s.memWrite 0 bytes) =
      if rx = v then { s with
        frameBuf := s.frameBuf.writeBytes 0 bytes, crcAcc := v, phase := .decode, chIdx := 0
        reports := s.reports ++ [.frameAccept], result := .done }
      else { s with
        frameBuf := s.frameBuf.writeBytes 0 bytes, crcAcc := v
        reports := s.reports ++ [.rejectChecksum rx v], result := .rejected } := by
  have hleg' : HeaderIsLegal (s.memWrite 0 bytes).cfg.headMarker (s.memWrite 0 bytes).frameByte :=
    (headerIsLegal_memWrite s hlen _).2 hleg
  rw [validateFrame_of_legalHeader hleg' hrom, State.checksumField_memWrite s hlen, State.memWrite_cfg,
    coveredBytes_memWrite s hlen]
  rfl

/-- What the whole-frame write leaves in memory at each offset. -/
theorem Memory.read_writeFrame (m : Memory) (i : Nat) :
    (m.writeBytes 0 bytes).read i = if i < frameSize then some (byteOf bytes i) else m.read i := by
  rw [Memory.read_writeBytes, hlen]
  split_ifs with hin hi hi
  · simp [byteOf, hlen, hi]
  · omega
  · omega
  · rfl

end

end Sys2Proof.Machine

namespace Sys2Proof
open Machine

/-- Settles O22: the encoding has a legal header and the frame's own checksum field, so VALIDATE_FRAME compares that field with the
CRC of the frame's bytes. -/
theorem telemetryFrameIsValidated : Obligations.TelemetryFrameIsValidated := by
  intro s f hrom bytes v
  have hlen : bytes.length = frameSize := encodeFrame_length _ _ f
  have hleg : HeaderIsLegal s.cfg.headMarker (byteOf bytes) := headerIsLegal_encodeFrame _ _ f
  have hrx : le16At (byteOf bytes) s.cfg.layout.checksumOffset = f.checksum := le16At_encodeFrame _ _ f
  have hexec : exec (.telemetryFrame f) s = .next (validateFrame (s.memWrite 0 bytes)) := rfl
  have hread := Memory.read_writeFrame hlen s.frameBuf
  refine ⟨s.frameBuf.writeBytes 0 bytes, if f.checksum = v then .done else .rejected, Memory.wf_writeBytes _ _ _,
    fun i hi => (hread i).trans (if_pos hi), fun i hi => (hread i).trans (if_neg (Nat.not_lt.2 hi)), ?_⟩
  rw [hexec, validateFrame_memWrite s hlen hrom hleg, hrx]
  -- `rfl` below would otherwise run the write of the 164 bytes
  clear_value bytes
  split_ifs <;> rfl

end Sys2Proof
end

section
/-! PROOF. The checksum engine's operations (R111–R114): what each leaves in CRC_ACC and returns. -/

namespace Sys2Proof.Machine

/-- The upper byte in R111's spelling. -/
theorem setWidth_ushiftRight_eq_hiByte (v : Half) : (v >>> 8).setWidth 8 = hiByte v :=
  BitVec.setWidth_ushiftRight_eq_extractLsb

theorem exec_crcStep (acc : Half) (b : Byte) (s : State) :
    exec (.crcStep acc b) s = .next { s with result := .u16 (crcStep s.cfg.crcRom acc b) } := rfl

theorem exec_crcCompute (bytes : List Byte) (s : State) :
    exec (.crcCompute bytes) s
      = .next { s with crcAcc := crcOf s.cfg.crcRom bytes, result := .u16 (crcOf s.cfg.crcRom bytes) } := rfl

/-- FRAME_CRC, with the covered bytes written apart from the operation (R10, R113). -/
theorem exec_frameCrc (s : State) :
    let v := crcOf s.cfg.crcRom (coveredBytes s.cfg.layout s.frameByte)
    exec .frameCrc s = .next { s with crcAcc := v, result := .u16 v } := by
  rw [← State.crcRange_eq]
  rfl

end Sys2Proof.Machine

namespace Sys2Proof
open Machine

/-- Settles O10: the listed table's entry at the step's index is the generated one. -/
theorem crcStepUsesGeneratedTable : Obligations.CrcStepUsesGeneratedTable := by
  intro s acc b hrom
  rw [exec_crcStep, hrom, crcStep_eq_crcRomEntry, setWidth_ushiftRight_eq_hiByte]

/-- Settles O11: CRC_COMPUTE's fold is the bit-serial one, step by step. -/
theorem crcComputeIsBitSerial : Obligations.CrcComputeIsBitSerial := by
  intro s bytes hrom
  rw [exec_crcCompute, hrom, crcOf_eq_bitSerial]

/-- Settles O13: FRAME_CRC is CRC_COMPUTE of the covered bytes. -/
theorem frameCrcCoversItsRange : Obligations.FrameCrcCoversItsRange := by
  intro s hrom
  rw [exec_frameCrc, hrom, crcOf_eq_bitSerial]

/-- Settles O14: FRAME_CRC's value is that of the covered bytes, and these agree. -/
theorem headNeverAffectsFrameCrc : Obligations.HeadNeverAffectsFrameCrc := by
  intro s t hlay hrom hagree
  have hbytes : coveredBytes s.cfg.layout s.frameByte = coveredBytes t.cfg.layout t.frameByte :=
    hlay ▸ coveredBytes_congr hagree
  refine ⟨_, exec_frameCrc s, ?_⟩
  rw [hrom, hbytes]
  exact exec_frameCrc t

end Sys2Proof
end

section
/-! PROOF. The CRC as polynomial division over GF(2) (R115), in the quotient by the generator polynomial: a shift step multiplies by x,
so the bit-serial fold builds M(x) x^16. -/

namespace Sys2Proof
open Polynomial (X)

/-- A word as a polynomial: bit i is the coefficient of x^i (R115). -/
noncomputable def bitPoly {w : Nat} (v : BitVec w) : Polynomial (ZMod 2) :=
  ∑ i ∈ Finset.range w, if v.getLsbD i then X ^ i else 0

/-- The generator polynomial (R115). -/
noncomputable def crcGenerator : Polynomial (ZMod 2) := X ^ 16 + X ^ 12 + X ^ 5 + 1

/-- M(x) of a byte list (R115): the first byte's bit 7 has the highest power. -/
noncomputable def messagePoly (bytes : List Byte) : Polynomial (ZMod 2) :=
  ∑ k ∈ Finset.range bytes.length, ∑ i ∈ Finset.range 8,
    if (bytes.getD k 0).getLsbD i then X ^ (8 * (bytes.length - 1 - k) + i) else 0

/-! ### Words -/

@[simp] theorem bitPoly_zero (w : Nat) : bitPoly 0#w = 0 := by simp [bitPoly]

/-- Exclusive-or is addition. -/
theorem bitPoly_xor {w : Nat} (a b : BitVec w) : bitPoly (a ^^^ b) = bitPoly a + bitPoly b := by
  rw [bitPoly, bitPoly, bitPoly, ← Finset.sum_add_distrib]
  refine Finset.sum_congr rfl fun i _ => ?_
  rw [BitVec.getLsbD_xor]
  cases a.getLsbD i <;> cases b.getLsbD i <;> simp [CharTwo.add_self_eq_zero]

/-- A shift by one, with the bit that leaves the word put back, is multiplication by x. -/
theorem bitPoly_shiftLeft_one {w : Nat} (v : BitVec w) :
    bitPoly (v <<< 1) + (if v.msb then X ^ w else 0) = X * bitPoly v := by
  cases w with
  | zero => simp [bitPoly, BitVec.eq_nil v]
  | succ w =>
    have hbit (i : Nat) (hi : i < w) : (v <<< 1).getLsbD (i + 1) = v.getLsbD i := by
      simp [BitVec.getLsbD_shiftLeft, hi, -BitVec.getLsbD_eq_getElem]
    have hsum : ∑ i ∈ Finset.range w, (if (v <<< 1).getLsbD (i + 1) then (X : Polynomial (ZMod 2)) ^ (i + 1) else 0)
        = ∑ i ∈ Finset.range w, X * if v.getLsbD i then X ^ i else 0 :=
      Finset.sum_congr rfl fun i hi => by rw [hbit i (Finset.mem_range.1 hi), mul_ite, mul_zero, pow_succ']
    rw [bitPoly, bitPoly, Finset.sum_range_succ', Finset.sum_range_succ, hsum, mul_add, Finset.mul_sum,
      BitVec.msb_eq_getLsbD_last]
    simp [pow_succ']

/-- A byte in bits 15..8. -/
theorem bitPoly_byte_high (b : Byte) : bitPoly (b.setWidth 16 <<< 8) = X ^ 8 * bitPoly b := by
  have hlow (i : Nat) (hi : i < 8) : (b.setWidth 16 <<< 8).getLsbD i = false := by
    simp [BitVec.getLsbD_shiftLeft, hi]
  have hhigh (i : Nat) (hi : i < 8) : (b.setWidth 16 <<< 8).getLsbD (8 + i) = b.getLsbD i := by
    have hin : 8 + i < 16 ∧ i < 16 := by omega
    simp [hin]
  rw [bitPoly, bitPoly, Finset.sum_range_add _ 8 8, Finset.mul_sum, Finset.sum_eq_zero, zero_add]
  · exact Finset.sum_congr rfl fun i hi => by rw [hhigh i (Finset.mem_range.1 hi), mul_ite, mul_zero, pow_add]
  · exact fun i hi => if_neg (by rw [hlow i (Finset.mem_range.1 hi)]; exact Bool.false_ne_true)

theorem bitPoly_crcPoly : bitPoly crcPoly = X ^ 12 + X ^ 5 + 1 := by
  simp [bitPoly, Finset.sum_range_succ]
  ring

/-! ### The register in the quotient -/

/-- A shift step: multiplication by x, less the generator if x^16 appears. -/
theorem bitPoly_crcShift (c : Half) : bitPoly (crcShift c) = X * bitPoly c + if c.msb then crcGenerator else 0 := by
  rw [← bitPoly_shiftLeft_one, crcShift]
  cases c.msb with
  | false => simp
  | true =>
    have htwo : (X : Polynomial (ZMod 2)) ^ 16 + X ^ 16 = 0 := CharTwo.add_self_eq_zero _
    simp only [if_true, bitPoly_xor, bitPoly_crcPoly, crcGenerator]
    linear_combination -htwo

/-- A polynomial modulo the generator. -/
noncomputable abbrev crcResidue : Polynomial (ZMod 2) →+* AdjoinRoot crcGenerator := AdjoinRoot.mk crcGenerator

theorem crcResidue_crcShifts (n : Nat) (c : Half) :
    crcResidue (bitPoly (crcShifts n c)) = crcResidue (X ^ n * bitPoly c) := by
  induction n generalizing c with
  | zero => simp [crcShifts]
  | succ n ih =>
    have hshift : crcResidue (bitPoly (crcShift c)) = crcResidue (X * bitPoly c) := by
      rw [bitPoly_crcShift, map_add]
      split_ifs <;> simp
    rw [crcShifts, ih, map_mul, hshift, ← map_mul, pow_succ, mul_assoc]

theorem crcResidue_bitSerialByte (reg : Half) (b : Byte) :
    crcResidue (bitPoly (Machine.bitSerialByte reg b)) = crcResidue (X ^ 8 * bitPoly reg + X ^ 16 * bitPoly b) := by
  rw [Machine.bitSerialByte, crcResidue_crcShifts, bitPoly_xor, bitPoly_byte_high]
  congr 1
  ring

/-! ### The message -/

theorem messagePoly_eq_sum_bitPoly (bytes : List Byte) :
    messagePoly bytes = ∑ k ∈ Finset.range bytes.length, X ^ (8 * (bytes.length - 1 - k)) * bitPoly (bytes.getD k 0) := by
  simp only [messagePoly, bitPoly, Finset.mul_sum, mul_ite, mul_zero, pow_add]

theorem messagePoly_append_singleton (bytes : List Byte) (b : Byte) :
    messagePoly (bytes ++ [b]) = X ^ 8 * messagePoly bytes + bitPoly b := by
  have hterm (k : Nat) (hk : k ∈ Finset.range bytes.length) :
      X ^ (8 * (bytes.length - k)) * bitPoly ((bytes ++ [b]).getD k 0)
        = X ^ 8 * (X ^ (8 * (bytes.length - 1 - k)) * bitPoly (bytes.getD k 0)) := by
    have hlt := Finset.mem_range.1 hk
    have hexp : 8 * (bytes.length - k) = 8 + 8 * (bytes.length - 1 - k) := by omega
    rw [List.getD_append _ _ _ _ hlt, hexp, pow_add, mul_assoc]
  rw [messagePoly_eq_sum_bitPoly, messagePoly_eq_sum_bitPoly, List.length_append, List.length_singleton, Nat.add_sub_cancel,
    Finset.sum_range_succ, Finset.sum_congr rfl hterm, Finset.mul_sum]
  simp

/-- The bit-serial CRC is M(x) x^16 modulo the generator (R115). -/
theorem crcResidue_bitSerial (bytes : List Byte) :
    crcResidue (bitPoly (Machine.bitSerial bytes)) = crcResidue (messagePoly bytes * X ^ 16) := by
  induction bytes using List.reverseRecOn with
  | nil => simp [Machine.bitSerial, messagePoly]
  | append_singleton bytes b ih =>
    have hfold : Machine.bitSerial (bytes ++ [b]) = Machine.bitSerialByte (Machine.bitSerial bytes) b := List.foldl_concat ..
    calc crcResidue (bitPoly (Machine.bitSerial (bytes ++ [b])))
      _ = crcResidue (X ^ 8 * bitPoly (Machine.bitSerial bytes) + X ^ 16 * bitPoly b) := by
        rw [hfold, crcResidue_bitSerialByte]
      _ = crcResidue (X ^ 8 * (messagePoly bytes * X ^ 16) + X ^ 16 * bitPoly b) := by
        rw [map_add, map_mul, ih, ← map_mul, ← map_add]
      _ = crcResidue (messagePoly (bytes ++ [b]) * X ^ 16) := by
        rw [messagePoly_append_singleton]
        congr 1
        ring

/-- Settles O12: equal residues differ by a multiple of the generator, and over GF(2) the difference is the sum. -/
theorem crcIsPolynomialRemainder : Obligations.CrcIsPolynomialRemainder := by
  intro s bytes hrom
  have hdvd : crcGenerator ∣ messagePoly bytes * X ^ 16 + bitPoly (Machine.bitSerial bytes) := by
    rw [← CharTwo.sub_eq_add]
    exact AdjoinRoot.mk_eq_mk.1 (crcResidue_bitSerial bytes).symm
  exact ⟨_, crcComputeIsBitSerial s bytes hrom, hdvd⟩

end Sys2Proof
end

section
/-! PROOF. The validator's operations (R131–R137): what each returns, emits and leaves unchanged. -/

namespace Sys2Proof.Machine

/-- The checksum's place, written apart from the operation (R10, R83). -/
theorem State.checksumField_eq (s : State) : s.checksumField = le16At s.frameByte (checksumPlace s.cfg.layout) := by
  have hplace : s.cfg.layout.checksumOffset = checksumPlace s.cfg.layout := by cases s.cfg.layout <;> rfl
  rw [State.checksumField, hplace, State.le16]

/-- HEADER_CHECK (R132): a mismatch is a rejection, a match goes on with the state as it was. -/
theorem exec_headerCheck (h l v c : Byte) (s : State) :
    exec (.headerCheck h l v c) s =
      if h = s.cfg.headMarker ∧ l.toNat = 158 ∧ v.toNat = 1 ∧ c.toNat = 2 then .next (s.reply .done)
      else .next (s.reject (.rejectHeader h l v c)) := by
  have hexec : exec (.headerCheck h l v c) s = (headerCheck h l v c s).toOutcome := rfl
  have hiff := headerMismatch_eq_false_iff s.cfg.headMarker h l v c
  rw [hexec, headerCheck]
  cases hm : headerMismatch s.cfg.headMarker h l v c with
  | false =>
    rw [if_pos (hiff.1 hm)]
    rfl
  | true =>
    rw [if_neg (mt hiff.2 (ne_false_of_eq_true hm))]
    rfl

/-- CHECKSUM_CHECK (R134) with the generated table (R110): the received checksum against the CRC of the covered bytes. -/
theorem exec_checksumCheck {s : State} (hrom : s.cfg.crcRom = crcRomContents) (rx : Half) :
    let v := bitSerial (coveredBytes s.cfg.layout s.frameByte)
    exec (.checksumCheck rx) s =
      if rx = v then .next { s with crcAcc := v, result := .done }
      else .next { s with crcAcc := v, reports := s.reports ++ [.rejectChecksum rx v], result := .rejected } := by
  intro v
  have hcrc : crcOf s.cfg.crcRom s.crcRange = v := by rw [hrom, crcOf_eq_bitSerial, State.crcRange_eq]
  have hexec : exec (.checksumCheck rx) s = (checksumCheck rx s).toOutcome := rfl
  rw [hexec, checksumCheck, frameCrc_eq, hcrc]
  by_cases hrx : rx = v
  · rw [if_pos hrx, if_neg (not_not.2 hrx)]
    rfl
  · rw [if_neg hrx, if_pos hrx]
    rfl

/-- VALIDATE_FRAME where HEADER_CHECK fails (R132, R135): the checksum is not computed. -/
theorem validateFrame_of_illegalHeader {s : State} (hbad : ¬ HeaderIsLegal s.cfg.headMarker s.frameByte) :
    validateFrame s = s.reject (.rejectHeader (s.frameByte 0) (s.frameByte 1) (s.frameByte 2) (s.frameByte 3)) := by
  rw [validateFrame_eq, if_pos]
  exact eq_true_of_ne_false (mt (headerMismatch_eq_false_iff _ _ _ _ _).1 hbad)

theorem exec_validateFrame (s : State) : exec .validateFrame s = .next (validateFrame s) := rfl

end Sys2Proof.Machine

namespace Sys2Proof
open Machine

/-- Settles O20: a bad header ends it, and behind a good one the checksum decides. -/
theorem validateFrameFollowsFixedOrder : Obligations.ValidateFrameFollowsFixedOrder := by
  intro s hrom v badHeader
  refine ⟨fun hbad => ⟨.rejected, ?_⟩, fun hgood hne => ⟨.rejected, ?_⟩, fun hgood heq => ⟨.done, ?_⟩⟩
  · rw [exec_validateFrame, validateFrame_of_illegalHeader hbad]
    rfl
  · rw [exec_validateFrame, validateFrame_of_legalHeader (not_not.1 hgood) hrom, if_neg hne]
  · rw [exec_validateFrame, validateFrame_of_legalHeader (not_not.1 hgood) hrom, if_pos heq]

/-- Settles O23: VALIDATE_FRAME either rejects, and then changes no more than is listed, or emits FRAME_ACCEPT. -/
theorem rejectionIsPrecise : Obligations.RejectionIsPrecise := by
  intro s t ht hnot
  rw [exec_validateFrame] at ht
  cases ht
  obtain ⟨v, e, hreject, he⟩ | ⟨v, haccept⟩ := validateFrame_cases s
  · exact ⟨e, v, .rejected, hreject, he⟩
  · exact absurd (congrArg State.reports haccept) hnot

/-- Settles O16: the fields are the buffer's bytes, joined in the order of their rule. -/
theorem parsesReadFrameFields : Obligations.ParsesReadFrameFields := by
  intro s
  refine ⟨⟨s.headerFields, rfl, rfl, rfl, rfl, rfl, joinBytes_toNat _ _⟩, s.checksumField, rfl, ?_⟩
  rw [State.checksumField_eq, le16At, joinBytes_toNat, Nat.add_comm]

/-- Settles O17: by HEADER_CHECK's two outcomes. -/
theorem headerCheckRejectsMismatch : Obligations.HeaderCheckRejectsMismatch := by
  intro s h l v c
  rw [exec_headerCheck]
  split_ifs
  · exact ⟨.done, rfl⟩
  · exact ⟨.rejected, rfl⟩

/-- Settles O19: by CHECKSUM_CHECK's two outcomes. -/
theorem checksumCheckComparesCrc : Obligations.ChecksumCheckComparesCrc := by
  intro s rx hrom
  rw [exec_checksumCheck hrom]
  split_ifs
  · exact ⟨.done, rfl⟩
  · exact ⟨.rejected, rfl⟩

/-- Settles O21: ACCEPT is the emission and the two assignments. -/
theorem acceptOpensDecode : Obligations.AcceptOpensDecode := fun _ => ⟨.done, rfl⟩

end Sys2Proof
end

section
/-! PROOF. The checksum detects every error confined to one byte (R134): the CRC register is never shifted to 0 from another value, so
two registers that differ stay different. -/

namespace Sys2Proof

/-- The generator polynomial is odd: the bit that leaves the word comes back as bit 0. -/
theorem crcShift_getLsbD_zero (c : Half) : (crcShift c).getLsbD 0 = c.msb := by
  rw [crcShift]
  cases c.msb with
  | false => simp
  | true => simp [crcPoly]

/-- A shift step loses nothing (R110): bit 0 tells whether the polynomial was added, and the rest is a shift. -/
theorem crcShift_injective : Function.Injective crcShift := by
  intro a b hab
  have hmsb : a.msb = b.msb := by rw [← crcShift_getLsbD_zero, hab, crcShift_getLsbD_zero]
  have hshift : a <<< 1 = b <<< 1 := by
    rw [crcShift, crcShift, hmsb] at hab
    split_ifs at hab
    · exact (BitVec.xor_left_inj _).1 hab
    · exact hab
  rw [BitVec.msb_eq_decide, BitVec.msb_eq_decide, decide_eq_decide] at hmsb
  bv_omega

theorem crcShifts_injective (n : Nat) : Function.Injective (crcShifts n) := by
  induction n with
  | zero => exact Function.injective_id
  | succ n ih => exact ih.comp crcShift_injective

theorem joinBytes_inj {hi lo hi' lo' : Byte} : joinBytes hi lo = joinBytes hi' lo' ↔ hi = hi' ∧ lo = lo' := by
  refine ⟨fun h => ⟨?_, ?_⟩, fun ⟨hhi, hlo⟩ => hhi ▸ hlo ▸ rfl⟩
  · simpa using congrArg hiByte h
  · simpa using congrArg loByte h

theorem le16At_congr {rd rd' : Nat → Byte} {i : Nat} (hlow : rd' i = rd i) (hhigh : rd' (i + 1) = rd (i + 1)) :
    le16At rd' i = le16At rd i :=
  joinBytes_inj.2 ⟨hhigh, hlow⟩

theorem le16At_ne {rd rd' : Nat → Byte} {i o : Nat} (hdiff : rd' o ≠ rd o) (ho : o = i ∨ o = i + 1) :
    le16At rd' i ≠ le16At rd i := by
  intro h
  obtain ⟨hhigh, hlow⟩ := joinBytes_inj.1 h
  rcases ho with rfl | rfl
  · exact hdiff hlow
  · exact hdiff hhigh

/-- A flipped bit changes its byte. -/
theorem xor_bit_ne (b : Byte) {k : Nat} (hk : k < 8) : b ^^^ (1#8 <<< k) ≠ b := by
  intro h
  have hbit := congrArg (·.getLsbD k) h
  simp [hk] at hbit

end Sys2Proof

namespace Sys2Proof.Machine

/-- The register before a byte can be told from the register after it. -/
theorem bitSerialByte_register_injective (b : Byte) : Function.Injective (bitSerialByte · b) :=
  fun _ _ h => (BitVec.xor_left_inj _).1 (crcShifts_injective 8 h)

/-- The byte can be told from the register after it. -/
theorem bitSerialByte_byte_injective (reg : Half) : Function.Injective (bitSerialByte reg) := by
  intro b b' h
  have hhigh : b.setWidth 16 <<< 8 = b'.setWidth 16 <<< 8 := (BitVec.xor_right_inj _).1 (crcShifts_injective 8 h)
  bv_omega

theorem foldl_bitSerialByte_injective (bytes : List Byte) : Function.Injective (bytes.foldl bitSerialByte) := by
  induction bytes with
  | nil => exact Function.injective_id
  | cons b bytes ih => exact ih.comp (bitSerialByte_register_injective b)

/-- One changed byte changes the CRC. -/
theorem bitSerial_ne_of_byte_ne (pre suf : List Byte) {b b' : Byte} (hne : b ≠ b') :
    bitSerial (pre ++ b :: suf) ≠ bitSerial (pre ++ b' :: suf) := by
  rw [bitSerial, bitSerial, List.foldl_append, List.foldl_append, List.foldl_cons, List.foldl_cons]
  exact (foldl_bitSerialByte_injective suf).ne ((bitSerialByte_byte_injective _).ne hne)

/-- The covered bytes around the one at offset `o`. -/
theorem coveredBytes_split (lay : Layout) (rd : Nat → Byte) {o : Nat} (hfirst : 1 ≤ o) (hlast : o ≤ lastCovered lay) :
    coveredBytes lay rd = (List.range (o - 1)).map (fun j => rd (j + 1))
      ++ rd o :: (List.range (lastCovered lay - o)).map (fun j => rd (o + 1 + j)) := by
  have hall : coveredBytes lay rd = (List.range (lastCovered lay)).map (fun j => rd (j + 1)) := by cases lay <;> rfl
  obtain ⟨n, rfl⟩ := Nat.exists_eq_add_of_le' hfirst
  obtain ⟨m, hm⟩ := Nat.exists_eq_add_of_le hlast
  have hrest : lastCovered lay - (n + 1) = m := by omega
  rw [hall, hrest, hm, List.range_add, List.range_succ]
  simp [Function.comp_def, Nat.add_right_comm]

/-- Two buffers that differ at one covered offset have different CRCs. -/
theorem bitSerial_coveredBytes_ne {lay : Layout} {rd rd' : Nat → Byte} {o : Nat} (hsame : ∀ i, i ≠ o → rd' i = rd i)
    (hdiff : rd' o ≠ rd o) (hfirst : 1 ≤ o) (hlast : o ≤ lastCovered lay) :
    bitSerial (coveredBytes lay rd') ≠ bitSerial (coveredBytes lay rd) := by
  have hpre : (List.range (o - 1)).map (fun j => rd' (j + 1)) = (List.range (o - 1)).map (fun j => rd (j + 1)) := by
    refine List.map_congr_left fun j hj => hsame _ ?_
    have hj := List.mem_range.1 hj
    omega
  have hsuf (n : Nat) : (List.range n).map (fun j => rd' (o + 1 + j)) = (List.range n).map (fun j => rd (o + 1 + j)) :=
    List.map_congr_left fun j _ => hsame _ (by omega)
  rw [coveredBytes_split lay rd' hfirst hlast, coveredBytes_split lay rd hfirst hlast, hpre, hsuf]
  exact bitSerial_ne_of_byte_ne _ _ hdiff

theorem lastCovered_lt_checksumPlace (lay : Layout) : lastCovered lay < checksumPlace lay := by
  cases lay <;> decide

/-- A check without an event is one that passed (R134). -/
theorem checksum_eq_of_silentCheck {s u : State} (hrom : s.cfg.crcRom = crcRomContents) {rx : Half}
    (hexec : exec (.checksumCheck rx) s = .next u) (hsilent : u.reports = s.reports) :
    rx = bitSerial (coveredBytes s.cfg.layout s.frameByte) := by
  by_contra hne
  rw [exec_checksumCheck hrom, if_neg hne] at hexec
  cases hexec
  simp at hsilent

end Sys2Proof.Machine

namespace Sys2Proof
open Machine

/-- Settles O15: a flipped covered bit changes the CRC and not the received checksum, a flipped checksum bit the received checksum and
not the CRC. -/
theorem singleBitErrorIsRejected : Obligations.SingleBitErrorIsRejected := by
  intro s t o k hrom hcfg hk hrange hflip ⟨u, hexec, hsilent⟩
  have hsame (i : Nat) (hi : i ≠ o) : t.frameByte i = s.frameByte i := by rw [hflip, if_neg hi]
  have hdiff : t.frameByte o ≠ s.frameByte o := by
    rw [hflip, if_pos rfl]
    exact xor_bit_ne _ hk
  have hpass := checksum_eq_of_silentCheck hrom hexec hsilent
  have hplace := lastCovered_lt_checksumPlace s.cfg.layout
  have hne : bitSerial (coveredBytes t.cfg.layout t.frameByte) ≠ t.checksumField := by
    rw [State.checksumField_eq, hcfg]
    rw [State.checksumField_eq] at hpass
    rcases hrange with ⟨hfirst, hlast⟩ | hbyte
    · rw [le16At_congr (hsame _ (by omega)) (hsame _ (by omega)), hpass]
      exact bitSerial_coveredBytes_ne hsame hdiff hfirst hlast
    · rw [coveredBytes_congr fun i _ hi => hsame i (by omega), ← hpass]
      exact (le16At_ne hdiff hbyte).symm
  have hcheck := exec_checksumCheck (hcfg ▸ hrom : t.cfg.crcRom = crcRomContents) t.checksumField
  exact ⟨_, _, hne, hcheck.trans (if_neg hne.symm)⟩

end Sys2Proof
end

section
/-! PROOF. The temperature table as R166 constrains it, and what TEMP_SCAN gives over it (R161, R167–R169). -/

namespace Sys2Proof

section
variable {t : TempTable} {e e' : TempEntry} {i j : Nat}

/-- `tempMax` is the maximum the standard library takes of the values (R161). -/
theorem max?_value_eq_tempMax (hne : t ≠ []) : (t.map TempEntry.value).max? = some (tempMax t) := by
  cases t with
  | nil => contradiction
  | cons e es =>
    rw [List.map_cons, List.max?_cons', List.foldl_map]
    rfl

/-! ### Order of the entries -/

theorem TempTable.Legal.index_lt (h : TempTable.Legal t) (hi : t[i]? = some e) : i < 130 := by
  obtain ⟨hlen, -⟩ := h
  obtain ⟨hlt, -⟩ := List.getElem?_eq_some_iff.1 hi
  rwa [hlen] at hlt

/-- W2: thresholds decrease strictly along the table. -/
theorem TempTable.Legal.threshold_lt (h : TempTable.Legal t) (hi : t[i]? = some e) (hj : t[j]? = some e') (hij : i < j) :
    e'.threshold < e.threshold := by
  obtain ⟨-, hdesc, -⟩ := h
  obtain ⟨hil, rfl⟩ := List.getElem?_eq_some_iff.1 hi
  obtain ⟨hjl, rfl⟩ := List.getElem?_eq_some_iff.1 hj
  exact List.pairwise_iff_getElem.1 hdesc i j hil hjl hij

/-- An entry at or after another has a threshold at most as large. -/
theorem TempTable.Legal.threshold_le (h : TempTable.Legal t) (hi : t[i]? = some e) (hj : t[j]? = some e') (hij : i ≤ j) :
    e'.threshold ≤ e.threshold := by
  rcases hij.lt_or_eq with hlt | rfl
  · exact (h.threshold_lt hi hj hlt).le
  · obtain rfl := Option.some.inj (hj.symm.trans hi)
    exact le_rfl

/-- An entry with a smaller threshold stands later in the table. -/
theorem TempTable.Legal.index_lt_of_threshold_lt (h : TempTable.Legal t) (hi : t[i]? = some e) (hj : t[j]? = some e')
    (hlt : e'.threshold < e.threshold) : i < j := by
  by_contra hij
  exact absurd (h.threshold_le hj hi (not_lt.1 hij)) (not_le.2 hlt)

/-- W2 with W9: a smaller threshold goes with a value at least as large. -/
theorem TempTable.Legal.value_antitone (h : TempTable.Legal t) (he : e ∈ t) (he' : e' ∈ t)
    (hle : e'.threshold ≤ e.threshold) : e.value ≤ e'.value := by
  obtain ⟨i, hi⟩ := List.mem_iff_getElem?.1 he
  obtain ⟨j, hj⟩ := List.mem_iff_getElem?.1 he'
  rcases lt_trichotomy i j with hij | rfl | hji
  · obtain ⟨-, -, -, -, -, -, -, hasc, -⟩ := h
    obtain ⟨hil, rfl⟩ := List.getElem?_eq_some_iff.1 hi
    obtain ⟨hjl, rfl⟩ := List.getElem?_eq_some_iff.1 hj
    exact List.pairwise_iff_getElem.1 hasc i j hil hjl hij
  · obtain rfl := Option.some.inj (hi.symm.trans hj)
    exact le_rfl
  · exact absurd (h.threshold_lt hj hi hji) (not_lt.2 hle)

/-! ### Entries that R166 fixes -/

/-- W8: 130 is the table's maximum. -/
theorem TempTable.Legal.max?_value (h : TempTable.Legal t) : (t.map TempEntry.value).max? = some 130 := by
  obtain ⟨hlen, -, -, -, -, -, hmax, -⟩ := h
  have hne : t ≠ [] := List.ne_nil_of_length_pos (by rw [hlen]; decide)
  rw [max?_value_eq_tempMax hne, hmax]

theorem TempTable.Legal.value_le (h : TempTable.Legal t) (he : e ∈ t) : e.value ≤ 130 :=
  (List.max?_eq_some_iff.1 h.max?_value).2 _ (List.mem_map_of_mem he)

theorem TempTable.Legal.exists_value_eq_130 (h : TempTable.Legal t) : ∃ e ∈ t, e.value = 130 :=
  List.mem_map.1 (List.max?_eq_some_iff.1 h.max?_value).1

/-- The last entry has the smallest threshold, so the maximal value. -/
theorem TempTable.Legal.value_last (h : TempTable.Legal t) (hlast : t[129]? = some e) : e.value = 130 := by
  obtain ⟨m, hm, hval⟩ := h.exists_value_eq_130
  obtain ⟨k, hk⟩ := List.mem_iff_getElem?.1 hm
  have hkl := h.index_lt hk
  have hle := h.value_antitone hm (List.mem_of_getElem? hlast) (h.threshold_le hk hlast (by omega))
  have hge := h.value_le (List.mem_of_getElem? hlast)
  omega

/-- W3: an entry that raw code 31 reaches has the maximal value. -/
theorem TempTable.Legal.value_of_threshold_le_31 (h : TempTable.Legal t) (he : e ∈ t) (hle : e.threshold ≤ 31) :
    e.value = 130 := by
  have ⟨_, _, hlow, _⟩ := h
  obtain ⟨l, hl, hl31⟩ := Option.any_eq_true _ _ |>.1 hlow
  have hval := h.value_antitone (List.mem_of_getElem? hl) he (hle.trans (of_decide_eq_true hl31))
  have hge := h.value_le he
  rw [h.value_last hl] at hval
  omega

/-- Below entry 128 stands the last entry alone. -/
theorem TempTable.Legal.value_of_threshold_lt_128 (h : TempTable.Legal t) (h128 : t[128]? = some e) (he' : e' ∈ t)
    (hlt : e'.threshold < e.threshold) : e'.value = 130 := by
  obtain ⟨k, hk⟩ := List.mem_iff_getElem?.1 he'
  have hkl := h.index_lt hk
  have hlow := h.index_lt_of_threshold_lt h128 hk hlt
  obtain rfl : k = 129 := by omega
  exact h.value_last hk

/-- W5: the table holds the zero crossing. -/
theorem TempTable.Legal.mem_241 (h : TempTable.Legal t) : ⟨241, 0⟩ ∈ t := by
  obtain ⟨-, -, -, -, ⟨j, -, hj, -⟩, -⟩ := h
  exact List.mem_of_getElem? hj

/-- W6: the first entry below threshold 241 has the value 1. -/
theorem TempTable.Legal.exists_value_eq_1 (h : TempTable.Legal t) :
    ∃ e ∈ t, e.threshold < 241 ∧ e.value = 1 ∧ ∀ e' ∈ t, e'.threshold < 241 → e'.threshold ≤ e.threshold := by
  have ⟨_, _, _, _, ⟨j, _, hj, hnext⟩, _⟩ := h
  obtain ⟨e, he, hval⟩ := Option.any_eq_true _ _ |>.1 hnext
  refine ⟨e, List.mem_of_getElem? he, h.threshold_lt hj he j.lt_succ_self, of_decide_eq_true hval, fun e' he' hlt => ?_⟩
  obtain ⟨k, hk⟩ := List.mem_iff_getElem?.1 he'
  exact h.threshold_le he hk (h.index_lt_of_threshold_lt hj hk hlt)

theorem TempTable.Legal.one_le_value (h : TempTable.Legal t) (he : e ∈ t) (hlt : e.threshold < 241) : 1 ≤ e.value := by
  obtain ⟨e₁, he₁, -, hval, hfirst⟩ := h.exists_value_eq_1
  exact hval ▸ h.value_antitone he₁ he (hfirst e he hlt)

end

section
variable {t : TempTable} {e : TempEntry} {r r' : Byte}

/-! ### TEMP_SCAN over such a table -/

@[simp] theorem tempScan_zero (t : TempTable) : tempScan t 0 = 0 := rfl

/-- R168: from raw code 1 on the scan stops at the largest threshold at most the raw code, and without one it gives the maximum. -/
theorem tempScan_cases (h : TempTable.Legal t) (hr : 1 ≤ r.toNat) :
    (∃ e ∈ t, e.threshold ≤ r.toNat ∧ (∀ e' ∈ t, e'.threshold ≤ r.toNat → e'.threshold ≤ e.threshold) ∧
      tempScan t r = e.value) ∨
    ((∀ e ∈ t, (r.toNat : Int) < e.threshold) ∧ tempScan t r = 130) := by
  obtain ⟨-, hdesc, -, -, -, -, hmax, -⟩ := h
  have hr0 : r ≠ 0 := by rintro rfl; simp at hr
  rw [tempScan, if_neg hr0]
  split
  · next e hfind =>
    obtain ⟨hle, before, after, rfl, hbefore⟩ := List.find?_eq_some_iff_append.1 hfind
    have hafter := (List.pairwise_cons.1 (List.pairwise_append.1 hdesc).2.1).1
    refine .inl ⟨e, by simp, of_decide_eq_true hle, fun e' he' hle' => ?_, rfl⟩
    rcases List.mem_append.1 he' with hb | ha
    · simpa [hle'] using hbefore e' hb
    · rcases List.mem_cons.1 ha with rfl | ha
      · exact le_refl _
      · exact (hafter e' ha).le
  · next hfind => exact .inr ⟨fun e he => by simpa using List.find?_eq_none.1 hfind e he, hmax⟩

/-- A raw code that no threshold is at most gives the fallback ceiling (R161). -/
theorem tempScan_eq_ceiling (h : TempTable.Legal t) (hr : 1 ≤ r.toNat) (hnone : ∀ e ∈ t, (r.toNat : Int) < e.threshold) :
    tempScan t r = 130 := by
  rcases tempScan_cases h hr with ⟨e, he, hle, -⟩ | ⟨-, hscan⟩
  · exact absurd (hnone e he) (not_lt.2 hle)
  · exact hscan

/-- What holds of the value of every entry the raw code reaches, and of 130, holds of the scan. -/
theorem tempScan_induction (h : TempTable.Legal t) (hr : 1 ≤ r.toNat) {P : Int → Prop}
    (hentry : ∀ e ∈ t, e.threshold ≤ r.toNat → P e.value) (hceiling : P 130) : P (tempScan t r) := by
  rcases tempScan_cases h hr with ⟨e, he, hle, -, hscan⟩ | ⟨-, hscan⟩
  · exact hscan ▸ hentry e he hle
  · exact hscan ▸ hceiling

/-- No entry the raw code reaches has a value below the scan's. -/
theorem tempScan_le_value (h : TempTable.Legal t) (hr : 1 ≤ r.toNat) (he : e ∈ t) (hle : e.threshold ≤ r.toNat) :
    tempScan t r ≤ e.value := by
  rcases tempScan_cases h hr with ⟨m, hm, -, hlargest, hscan⟩ | ⟨hnone, -⟩
  · exact hscan ▸ h.value_antitone hm he (hlargest e he hle)
  · exact absurd (hnone e he) (not_lt.2 hle)

/-- R168: the entry with the largest threshold at most the raw code gives the scan's value. -/
theorem tempScan_eq_value (h : TempTable.Legal t) (hr : 1 ≤ r.toNat) (he : e ∈ t) (hle : e.threshold ≤ r.toNat)
    (hlargest : ∀ e' ∈ t, e'.threshold ≤ r.toNat → e'.threshold ≤ e.threshold) : tempScan t r = e.value := by
  have hge : e.value ≤ tempScan t r := tempScan_induction h hr (P := (e.value ≤ ·))
    (fun m hm hreach => h.value_antitone he hm (hlargest m hm hreach)) (h.value_le he)
  exact le_antisymm (tempScan_le_value h hr he hle) hge

theorem tempScan_le_130 (h : TempTable.Legal t) (hr : 1 ≤ r.toNat) : tempScan t r ≤ 130 :=
  tempScan_induction h hr (P := (· ≤ 130)) (fun _ he _ => h.value_le he) le_rfl

/-- R169 on the scan. -/
theorem tempScan_antitone (h : TempTable.Legal t) (hr : 1 ≤ r.toNat) (hle : r.toNat ≤ r'.toNat) :
    tempScan t r' ≤ tempScan t r :=
  tempScan_induction h hr (P := (tempScan t r' ≤ ·))
    (fun _ he hreach => tempScan_le_value h (hr.trans hle) he (by omega)) (tempScan_le_130 h (hr.trans hle))

/-- Up to raw code 31 the scan is at its maximum (R167). -/
theorem tempScan_of_le_31 (h : TempTable.Legal t) (hr : 1 ≤ r.toNat) (hle : r.toNat ≤ 31) : tempScan t r = 130 :=
  tempScan_induction h hr (P := (· = 130)) (fun _ he hreach => h.value_of_threshold_le_31 he (by omega)) rfl

/-- Below the threshold of entry 128 the scan is at its maximum (R167). -/
theorem tempScan_of_lt_128 (h : TempTable.Legal t) (hr : 1 ≤ r.toNat) (h128 : t[128]? = some e)
    (hlt : (r.toNat : Int) < e.threshold) : tempScan t r = 130 :=
  tempScan_induction h hr (P := (· = 130)) (fun _ he hreach => h.value_of_threshold_lt_128 h128 he (by omega)) rfl

theorem one_le_tempScan (h : TempTable.Legal t) (hr : 1 ≤ r.toNat) (hle : r.toNat ≤ 240) : 1 ≤ tempScan t r :=
  tempScan_induction h hr (P := (1 ≤ ·)) (fun _ he hreach => h.one_le_value he (by omega)) (by decide)

theorem tempScan_nonpos (h : TempTable.Legal t) (hr : 241 ≤ r.toNat) : tempScan t r ≤ 0 :=
  tempScan_le_value (e := ⟨241, 0⟩) h (by omega) h.mem_241 (by simpa using hr)

theorem tempScan_241 (h : TempTable.Legal t) : tempScan t 241 = 0 :=
  tempScan_eq_value h (by decide) h.mem_241 le_rfl fun _ _ hle => hle

theorem tempScan_240 (h : TempTable.Legal t) : tempScan t 240 = 1 := by
  obtain ⟨e, he, hlt, hval, hfirst⟩ := h.exists_value_eq_1
  have hreach : e.threshold ≤ (240#8).toNat := Int.le_of_lt_add_one hlt
  have hlargest (e' : TempEntry) (he' : e' ∈ t) (hle : e'.threshold ≤ (240#8).toNat) : e'.threshold ≤ e.threshold :=
    hfirst e' he' (Int.lt_add_one_of_le hle)
  rw [← hval]
  exact tempScan_eq_value h (by decide) he hreach hlargest

/-- No threshold is 235 (W7), so raw code 235 gives the largest threshold below it (R167). -/
theorem tempScan_235 (h : TempTable.Legal t) :
    (∃ e ∈ t, e.threshold < 235 ∧ (∀ e' ∈ t, e'.threshold < 235 → e'.threshold ≤ e.threshold) ∧ tempScan t 235 = e.value) ∨
    ((∀ e ∈ t, 235 ≤ e.threshold) ∧ tempScan t 235 = 130) := by
  have ⟨_, _, _, _, _, hno235, _⟩ := h
  rcases tempScan_cases (r := 235) h (by decide) with ⟨e, he, hle, hlargest, hscan⟩ | ⟨hnone, hscan⟩
  · exact .inl ⟨e, he, lt_of_le_of_ne hle (hno235 e he), fun e' he' hlt => hlargest e' he' hlt.le, hscan⟩
  · exact .inr ⟨fun e he => (hnone e he).le, hscan⟩

end

end Sys2Proof

namespace Sys2Proof
open Machine

/-- Settles O24: the scan is characterised by its table's entries alone, whatever the state. -/
theorem tempScanFindsLargestThreshold : Obligations.TempScanFindsLargestThreshold := by
  intro s raw h
  refine ⟨tempScan s.cfg.tempTable raw, rfl, fun hzero => ?_, fun e he hraw hle hlargest => ?_, fun hraw hnone => ?_⟩
  · rw [BitVec.eq_of_toNat_eq (y := 0) hzero, tempScan_zero]
  · exact tempScan_eq_value h (Nat.one_le_iff_ne_zero.2 hraw) he hle hlargest
  · exact tempScan_eq_ceiling h (Nat.one_le_iff_ne_zero.2 hraw) hnone

/-- Settles O25: the three operations return the same ROM entry, and a legal configuration's ROM holds the scan's value. -/
theorem tempDecodeEqualsScan : Obligations.TempDecodeEqualsScan :=
  fun s raw h => ⟨tempDecode s.cfg raw, tempDecode_toInt h raw, rfl, rfl, rfl⟩

/-- Settles O26: each entry or bound is the scan's, read through the ROM. -/
theorem tempRomFixedEntries : Obligations.TempRomFixedEntries := by
  intro c hc
  have ⟨_, h, _⟩ := hc
  simp only [tempDecode_toInt hc]
  exact ⟨tempScan_zero _, tempScan_241 h, tempScan_240 h,
    fun r => tempScan_of_le_31 h,
    fun r e h128 hr => tempScan_of_lt_128 h hr h128,
    fun r hr hle => ⟨one_le_tempScan h hr hle, tempScan_le_130 h hr⟩,
    fun r => tempScan_nonpos h,
    one_le_tempScan h (by decide) (by decide),
    tempScan_235 h⟩

/-- Settles O27: the scan is antitone from raw code 1 on, and the sentinel breaks it at 0. -/
theorem tempRomIsNonIncreasing : Obligations.TempRomIsNonIncreasing := by
  intro c hc
  have ⟨_, h, _⟩ := hc
  simp only [tempDecode_toInt hc]
  exact ⟨fun r r' => tempScan_antitone h, tempScan_zero _, tempScan_of_le_31 h (by decide) (by decide)⟩

end Sys2Proof
end

section
/-! PROOF. The field scalers (R180–R189): the integer RPM is a floor and agrees with the source's floating-point formula (R187), and
the stored temperature does not overflow. -/

namespace Sys2Proof.Machine

/-! ### SCALE_RPM (R186) -/

/-- Ten times a u16 fits a u32, so neither the product nor the quotient wraps (R186). -/
theorem scaleRpm_toNat {c : Config} (hp : 1 ≤ c.poleCount.toNat) (erpm : Half) :
    (scaleRpm c erpm).toNat = 10 * erpm.toNat / c.poleCount.toNat := by
  have hne : c.poleCount ≠ 0 := by
    intro h0
    simp [h0] at hp
  have herpm := erpm.isLt
  have hpoles := c.poleCount.isLt
  have hprod : (erpm.setWidth 32 * 10#32).toNat = 10 * erpm.toNat := by
    rw [BitVec.toNat_mul, BitVec.toNat_setWidth, BitVec.toNat_ofNat]
    omega
  have hdiv : (c.poleCount.setWidth 32).toNat = c.poleCount.toNat := by
    rw [BitVec.toNat_setWidth]
    omega
  rw [scaleRpm, if_neg hne, BitVec.toNat_udiv, hprod, hdiv]

theorem ten_mul_toNat_le (erpm : Half) : 10 * erpm.toNat ≤ 655350 := by
  have herpm := erpm.isLt
  omega

/-! ### The floating-point formula (R187) -/

/-- A quotient that is no integer is at least `1 / p` away from the nearest one (R187 item 3): what is closer has its floor. -/
theorem floor_eq_div_of_near {a p : Nat} {x : Rat} (hp : 1 ≤ p) (hdvd : ¬ p ∣ a) (hx : |x - a / p| < 1 / p) :
    ⌊x⌋ = ((a / p : Nat) : Int) := by
  have hpos : (0 : Rat) < p := by exact_mod_cast hp
  have hmod : 1 ≤ a % p := Nat.one_le_iff_ne_zero.2 fun h => hdvd (Nat.dvd_of_mod_eq_zero h)
  have hmod_lt : a % p < p := Nat.mod_lt _ hp
  have hsplit : p * (a / p) + a % p = a := Nat.div_add_mod a p
  have hbelow : a / p * p + 1 ≤ a := by
    rw [Nat.mul_comm]
    omega
  have habove : a + 1 ≤ (a / p + 1) * p := by
    rw [Nat.add_one_mul, Nat.mul_comm]
    omega
  have hfloor : ((a / p : Nat) : Rat) ≤ (a - 1) / p := by
    rw [le_div_iff₀ hpos, le_sub_iff_add_le]
    exact_mod_cast hbelow
  have hceil : (a + 1 : Rat) / p ≤ ((a / p : Nat) : Rat) + 1 := by
    rw [div_le_iff₀ hpos]
    exact_mod_cast habove
  obtain ⟨hlo, hhi⟩ := abs_sub_lt_iff.1 hx
  rw [sub_div] at hfloor
  rw [add_div] at hceil
  rw [Int.floor_eq_iff, Int.cast_natCast]
  constructor <;> linarith

section
variable {fl : Rat → Rat} (hfl : RoundsLikeBinary64 fl)
include hfl

theorem RoundsLikeBinary64.natCast {n : Nat} (h : n ≤ 2 ^ 53) : fl n = n := by
  have hint := hfl.1 n (by rw [Nat.abs_cast]; exact_mod_cast h)
  exact_mod_cast hint

/-- Rounding moves a quotient with a numerator below 2^53 by less than `1 / p` (R187 item 4). -/
theorem RoundsLikeBinary64.quotient_near {a p : Nat} (ha : 1 ≤ a) (ha' : a < 2 ^ 53) (hp : 1 ≤ p) (hp' : p ≤ 2 ^ 53) :
    |fl (a / p) - a / p| < 1 / p := by
  have hpos : (0 : Rat) < p := by exact_mod_cast hp
  have ha1 : (1 : Rat) ≤ a := by exact_mod_cast ha
  have ha53 : (a : Rat) < 2 ^ 53 := by exact_mod_cast ha'
  have hp1 : (1 : Rat) ≤ p := by exact_mod_cast hp
  have hp53 : (p : Rat) ≤ 2 ^ 53 := by exact_mod_cast hp'
  have habs : |(a / p : Rat)| = a / p := abs_of_nonneg (by positivity)
  have hlo : 1 / 2 ^ 53 ≤ |(a / p : Rat)| := by
    rw [habs]
    exact div_le_div₀ (by positivity) ha1 hpos hp53
  have hhi : |(a / p : Rat)| ≤ 2 ^ 53 := by
    rw [habs]
    exact (div_le_self (by positivity) hp1).trans ha53.le
  calc |fl (a / p) - a / p| ≤ |(a / p : Rat)| / 2 ^ 53 := hfl.error_le hlo hhi
    _ = a / 2 ^ 53 / p := by rw [habs, div_right_comm]
    _ < 1 / p := by
      gcongr
      exact (div_lt_one (by positivity)).2 ha53

/-- R187 for every numerator below 2^53: the floor of the rounded quotient is the integer quotient. -/
theorem RoundsLikeBinary64.floor_quotient {a p : Nat} (ha : a < 2 ^ 53) (hp : 1 ≤ p) (hp' : p ≤ 2 ^ 53) :
    ⌊fl (a / p)⌋ = ((a / p : Nat) : Int) := by
  by_cases hdvd : p ∣ a
  · have hexact : (a / p : Rat) = (a / p : Nat) := (Nat.cast_div_charZero hdvd).symm
    rw [hexact, hfl.natCast ((Nat.div_le_self a p).trans ha.le), Int.floor_natCast]
  · have ha1 : 1 ≤ a := Nat.one_le_iff_ne_zero.2 fun h0 => hdvd (h0 ▸ dvd_zero p)
    exact floor_eq_div_of_near hp hdvd (hfl.quotient_near ha1 ha hp hp')

end

/-! ### SCALE_TEMP_CENTI (R188) -/

/-- A hundred times an s16 fits an s32 (R188). -/
theorem scaleTempCenti_toInt (mosT : Half) : (scaleTempCenti mosT).toInt = 100 * mosT.toInt := by
  have hlo := BitVec.le_toInt mosT
  have hhi := BitVec.toInt_lt (x := mosT)
  have hsext : (mosT.signExtend 32).toInt = mosT.toInt := BitVec.toInt_signExtend_of_le (by decide)
  have hhundred : (100#32).toInt = 100 := by decide
  rw [scaleTempCenti, BitVec.toInt_mul, hsext, hhundred, mul_comm]
  exact Int.bmod_eq_of_le (by omega) (by omega)

end Sys2Proof.Machine

namespace Sys2Proof
open Machine

/-- Settles O29: the quotient is at most its numerator. -/
theorem scaleRpmFloors : Obligations.ScaleRpmFloors := by
  intro s erpm hp
  have hrpm := scaleRpm_toNat hp erpm
  refine ⟨scaleRpm s.cfg erpm, rfl, hrpm, ?_⟩
  rw [hrpm]
  exact (Nat.div_le_self _ _).trans (ten_mul_toNat_le erpm)

/-- Settles O30: the product is an integer that rounding keeps, and the quotient's floor survives rounding. -/
theorem rpmAgreesWithFloatFormula : Obligations.RpmAgreesWithFloatFormula := by
  intro fl c erpm hfl hp
  have hnum : 10 * erpm.toNat < 2 ^ 53 := (ten_mul_toNat_le erpm).trans_lt (by norm_num)
  have hpoles : c.poleCount.toNat ≤ 2 ^ 53 := c.poleCount.isLt.le.trans (by norm_num)
  have hprod : (erpm.toNat : Rat) * 10 = (10 * erpm.toNat : Nat) := by push_cast; ring
  rw [hprod, hfl.natCast hnum.le, hfl.floor_quotient hnum hp hpoles, scaleRpm_toNat hp]

/-- Settles O31: the bound follows from the exact product. -/
theorem scaleTempCentiIsExact : Obligations.ScaleTempCentiIsExact := by
  intro s mosT
  have hexact := scaleTempCenti_toInt mosT
  exact ⟨scaleTempCenti mosT, rfl, hexact, fun ⟨hlo, hhi⟩ => by omega⟩

/-- Settles O28: each code is the raw field, and the weights of R180 are the formulas' divisors. -/
theorem unitScalersDenoteExactValues : Obligations.UnitScalersDenoteExactValues := by
  intro s raw
  exact ⟨⟨scaleCurrent raw, rfl, rfl⟩, ⟨scaleCurrent raw, rfl, rfl⟩, ⟨scaleVoltage raw, rfl, rfl⟩,
    ⟨scaleThrottle raw, rfl, rfl⟩, ⟨scaleThrottle raw, rfl, rfl⟩⟩

end Sys2Proof
end

section
/-! PROOF. The telemetry decoder and the store (R200–R208): what a channel step does, and the eight steps of a frame, slot after
slot. -/

namespace Sys2Proof.Machine

/-! ### The fields of a record (R86, R87) -/

theorem be16At_toNat (rd : Nat → Byte) (i : Nat) : (be16At rd i).toNat = be16Value rd i := joinBytes_toNat _ _

/-- The sign of a two's-complement field is bit 7 of its first byte (R87). -/
theorem be16At_toInt (rd : Nat → Byte) (i : Nat) : (be16At rd i).toInt = signedBe16Value rd i := by
  have hlow := (rd (i + 1)).isLt
  rw [BitVec.toInt_eq_toNat_cond, be16At_toNat, signedBe16Value, be16Value]
  split_ifs <;> omega

/-! ### The gate (R201) -/

theorem gateOpen_iff (f : Channel) (rpm : Word) :
    gateOpen f rpm = true ↔ 0 < f.volt.toNat ∨ 0 < f.curr.toInt ∨ 0 < rpm.toNat ∨ 1 < f.motorIdx.toNat := by
  simp [gateOpen, or_assoc]

/-! ### The store's reader (R208) -/

theorem storeRead_eq_sample (s : State) :
    storeRead s = s.store.sample.elim .noSample fun t => .sample t.1 t.2.1 t.2.2 := by
  rw [storeRead, Store.sample]
  split_ifs <;> rfl

/-! ### One channel step (R202) -/

section
variable {s : State} (hc : s.cfg.Legal)
include hc

theorem scaleRpm_eq_ofNat (erpm : Half) :
    scaleRpm s.cfg erpm = BitVec.ofNat 32 (10 * erpm.toNat / s.cfg.poleCount.toNat) := by
  have ⟨hpoles, _⟩ := hc
  rw [← scaleRpm_toNat hpoles, BitVec.ofNat_toNat, BitVec.setWidth_eq]

theorem tempDecode_eq_ofInt (raw : Byte) : tempDecode s.cfg raw = BitVec.ofInt 16 (tempScan s.cfg.tempTable raw) := by
  rw [← tempDecode_toInt hc, BitVec.ofInt_toInt]

theorem scaleTempCenti_tempScan (raw : Byte) :
    scaleTempCenti (BitVec.ofInt 16 (tempScan s.cfg.tempTable raw)) = BitVec.ofInt 32 (100 * tempScan s.cfg.tempTable raw) := by
  rw [← tempDecode_toInt hc, BitVec.ofInt_toInt, ← scaleTempCenti_toInt, BitVec.ofInt_toInt]

/-- The RPM is a quotient, positive exactly if its divisor is at most its numerator (R186). -/
theorem gateOpen_iff_slotGated (k : Fin 8) :
    gateOpen (s.channelFields k) (scaleRpm s.cfg (s.channelFields k).erpm) = true ↔ slotGated s k := by
  have ⟨hpoles, _⟩ := hc
  rw [gateOpen_iff, scaleRpm_toNat hpoles, Nat.div_pos_iff, and_iff_right (Nat.zero_lt_of_lt hpoles)]
  rfl

/-- What an open gate publishes, by the scalers and the ROM (R162, R186, R188, R203, R204). -/
theorem publish_eq (k : Fin 8) :
    publish k (s.channelFields k) (scaleRpm s.cfg (s.channelFields k).erpm) s
      = { s with store := slotStore s k, reports := s.reports ++ slotEvents s k } := by
  have hreports (u v : Event) : s.reports ++ [u] ++ [v] = s.reports ++ [u, v] := List.append_assoc _ _ _
  simp only [publish, tempDecode_eq_ofInt hc, scaleTempCenti_tempScan hc, scaleRpm_eq_ofNat hc, storeUpdate, State.emit,
    hreports]
  rfl

/-- DECODE_CHANNEL where it is enabled (R202, R205, R206). -/
theorem exec_decodeChannel (hrun : s.lifecycle = .running) (hdecode : s.phase = .decode) :
    exec .decodeChannel s = .next { s with
      store := if slotGated s s.chIdx then slotStore s s.chIdx else s.store
      reports := s.reports ++ if slotGated s s.chIdx then slotEvents s s.chIdx else []
      phase := if s.chIdx.val = 7 then .poll else .decode
      chIdx := if s.chIdx.val = 7 then s.chIdx else s.chIdx + 1
      result := .done } := by
  have hexec : exec .decodeChannel s = .next (decodeChannel s) := if_pos (s.decodeEnabled_iff.2 ⟨hrun, hdecode⟩)
  have hlast : s.chIdx = 7 ↔ s.chIdx.val = 7 := Fin.ext_iff
  have hgate := gateOpen_iff_slotGated hc s.chIdx
  by_cases hg : slotGated s s.chIdx
  · rw [hexec, decodeChannel_open s (hgate.2 hg), publish_eq hc]
    simp only [hg, hlast, hdecode, if_true]
  · rw [hexec, decodeChannel_closed s (Bool.eq_false_of_not_eq_true (mt hgate.1 hg))]
    simp only [hg, hlast, hdecode, if_false, List.append_nil]

end

/-! ### The channel steps of a frame (R205, R207) -/

/-- The gated slots below `n`, in slot order. -/
def gatedBelow (s : State) (n : Nat) : List (Fin 8) := ((List.finRange 8).take n).filter fun k => decide (slotGated s k)

theorem gatedBelow_eight (s : State) : gatedBelow s 8 = gatedSlots s := rfl

theorem gatedBelow_succ (s : State) (k : Fin 8) :
    gatedBelow s (k.val + 1) = gatedBelow s k.val ++ if slotGated s k then [k] else [] := by
  have hlen : k.val < (List.finRange 8).length := by simp
  have htake : (List.finRange 8).take (k.val + 1) = (List.finRange 8).take k.val ++ [k] := by
    rw [← List.take_concat_get' _ _ hlen, List.getElem_finRange]
    rfl
  rw [gatedBelow, htake, List.filter_append, List.filter_singleton, Bool.cond_decide, gatedBelow]

/-- The store after the updates of gated slots: the last one's triple, or the old store (R207). -/
def storeAfter (s : State) (ks : List (Fin 8)) : Store := ks.getLast?.elim s.store (slotStore s)

/-- `s` when the channel steps of the slots below `k` have run and `k` is next. -/
def State.atSlot (s : State) (k : Fin 8) (r : Result) : State :=
  { s with
    chIdx := k
    store := storeAfter s (gatedBelow s k.val)
    reports := s.reports ++ (gatedBelow s k.val).flatMap (slotEvents s)
    result := r }

/-- One more step of the same operation, at the end. -/
theorem repeatExec_succ {i : Instr} {n : Nat} {s t : State} (h : repeatExec i n s = .next t) :
    repeatExec i (n + 1) s = exec i t := by
  induction n generalizing s with
  | zero =>
    cases h
    rw [repeatExec]
    cases exec i t <;> rfl
  | succ n ih =>
    rw [repeatExec] at h ⊢
    cases hs : exec i s with
    | next u =>
      rw [hs] at h
      exact ih h
    | fault e =>
      rw [hs] at h
      cases h
    | refused e =>
      rw [hs] at h
      cases h

section
variable {s : State} (hc : s.cfg.Legal) (hrun : s.lifecycle = .running) (hdecode : s.phase = .decode)
include hc hrun hdecode

/-- A channel step in the middle of a frame: the fields of slot `k` are still those of `s` (R207). -/
theorem exec_decodeChannel_atSlot (k : Fin 8) (r : Result) :
    exec .decodeChannel (s.atSlot k r) = .next { s with
      store := storeAfter s (gatedBelow s (k.val + 1))
      reports := s.reports ++ (gatedBelow s (k.val + 1)).flatMap (slotEvents s)
      phase := if k.val = 7 then .poll else .decode
      chIdx := if k.val = 7 then k else k + 1
      result := .done } := by
  refine (exec_decodeChannel (s := s.atSlot k r) hc hrun hdecode).trans ?_
  have hsame : slotGated (s.atSlot k r) (s.atSlot k r).chIdx ↔ slotGated s k := Iff.rfl
  rw [gatedBelow_succ]
  by_cases hg : slotGated s k
  · simp only [hsame, hg, if_true, storeAfter, List.getLast?_concat, List.flatMap_append, List.flatMap_singleton,
      ← List.append_assoc]
    rfl
  · simp only [hsame, hg, if_false, List.append_nil]
    rfl

/-- The first channel steps of a frame lead from slot to slot. -/
theorem repeatExec_decodeChannel_atSlot (h0 : s.chIdx = 0) (n : Nat) (hn : n < 8) :
    ∃ r, repeatExec .decodeChannel n s = .next (s.atSlot ⟨n, hn⟩ r) := by
  induction n with
  | zero =>
    refine ⟨s.result, congrArg _ ?_⟩
    simp [State.atSlot, gatedBelow, storeAfter, ← h0]
  | succ n ih =>
    obtain ⟨r, h⟩ := ih (by omega)
    have hnot : n ≠ 7 := by omega
    have hnext : (⟨n, by omega⟩ : Fin 8) + 1 = ⟨n + 1, hn⟩ := by
      apply Fin.ext
      simp only [Fin.val_add]
      omega
    refine ⟨.done, ?_⟩
    rw [repeatExec_succ h, exec_decodeChannel_atSlot hc hrun hdecode, if_neg hnot, if_neg hnot, hnext, ← hdecode]
    rfl

end

end Sys2Proof.Machine

namespace Sys2Proof
open Machine

/-- Settles O32: the sixteen-bit fields are big-endian, read as numbers with or without their sign. -/
theorem parseChannelReadsRecord : Obligations.ParseChannelReadsRecord := fun s k =>
  ⟨s.channelFields k, rfl, rfl, be16At_toNat _ _, be16At_toNat _ _, be16At_toNat _ _, be16At_toNat _ _, be16At_toNat _ _,
    be16At_toInt _ _, be16At_toInt _ _, rfl, rfl, be16At_toNat _ _⟩

/-- Settles O33: an unsigned word is positive exactly if it is not 0. -/
theorem gateOpensOnSignal : Obligations.GateOpensOnSignal := by
  intro s f rpm
  refine ⟨gateOpen f rpm, rfl, ?_⟩
  rw [gateOpen_iff, BitVec.toNat_pos, BitVec.toNat_pos, BitVec.pos_iff_ne_zero, BitVec.pos_iff_ne_zero]
  rfl

/-- Settles O34: by the gate of slot CH_IDX. -/
theorem decodeChannelRunsOneSlot : Obligations.DecodeChannelRunsOneSlot :=
  fun _ hc hrun hdecode => ⟨.done, exec_decodeChannel hc hrun hdecode⟩

/-- Settles O35: seven steps lead to slot 7, and its step ends the frame. -/
theorem frameDecodesEightSlots : Obligations.FrameDecodesEightSlots := by
  intro s hc hrun hdecode h0
  obtain ⟨r, h⟩ := repeatExec_decodeChannel_atSlot hc hrun hdecode h0 7 (by omega)
  refine ⟨.done, ?_⟩
  rw [repeatExec_succ h, exec_decodeChannel_atSlot hc hrun hdecode, gatedBelow_eight, storeAfter]
  cases (gatedSlots s).getLast? <;> rfl

/-- Settles O36: the update is one assignment to the store, then the emission. -/
theorem storeUpdateWritesTriple : Obligations.StoreUpdateWritesTriple := fun _ _ _ _ => ⟨.done, rfl⟩

/-- Settles O37: the record is `channelReport` of the operands. -/
theorem reportEmitsRecord : Obligations.ReportEmitsRecord := fun _ _ f rpm cur v mos cap ph ti thOut =>
  ⟨channelReport f rpm cur v mos cap ph ti thOut, rfl, rfl, rfl, rfl, rfl, rfl, rfl, rfl, rfl, rfl, rfl, rfl⟩

/-- Settles O38: a reader gets the store's sample, which the invariant ties to the report stream (R59). -/
theorem storeReadSeesLatestUpdate : Obligations.StoreReadSeesLatestUpdate := by
  intro s
  have hexec : exec .storeRead s = .next (s.reply (storeRead s)) := rfl
  refine ⟨rfl, fun hinv => ?_⟩
  rw [hexec, storeRead_eq_sample, hinv.stored]
  cases lastStored s.reports <;> rfl

end Sys2Proof
end

section
/-! PROOF. The byte source's calls and the plain effects of the synchronizer (R230, R231, R233, R234, R236–R240, R243). -/

namespace Sys2Proof.Machine

/-- A call that fails (R243), in terms of the state before its draw. -/
theorem onFail_of_draw {s s1 : State} {a : Answer} (h : s.nextAnswer = (a, s1)) (left : List Byte) (op : TransportOp) :
    State.onFail { s1 with pending := left } op = { s1 with
      pending := left, lifecycle := .failed, reports := s.reports ++ [.transportFailure op], result := .failed } := by
  obtain ⟨as, n, rfl⟩ := State.nextAnswer_state h
  rfl

/-- Two draws are still only the environment's. -/
theorem State.nextAnswer_state_two {s s1 s2 : State} {a b : Answer} (h1 : s.nextAnswer = (a, s1))
    (h2 : s1.nextAnswer = (b, s2)) : ∃ as n, s2 = { s with answers := as, drawCount := n } := by
  obtain ⟨as, n, rfl⟩ := State.nextAnswer_state h2
  obtain ⟨-, -, rfl⟩ := State.nextAnswer_state h1
  exact ⟨as, n, rfl⟩

theorem exec_bsAvailable_serve {s s1 : State} {d : Nat} (h : s.nextAnswer = (.serve d, s1)) :
    exec .bsAvailable s = .next { s1 with result := .count s.pending.length } := by
  have hexec : exec .bsAvailable s = execBsAvailable s := rfl
  rw [hexec, execBsAvailable, bsAvailable_serve h]
  obtain ⟨as, n, rfl⟩ := State.nextAnswer_state h
  rfl

theorem exec_bsDiscard_serve {s s1 : State} {d : Nat} (h : s.nextAnswer = (.serve d, s1)) :
    exec .bsDiscard s = .next { s1 with pending := [], result := .done } := by
  have hexec : exec .bsDiscard s = execBsDiscard s := rfl
  rw [hexec, execBsDiscard, bsDiscard_serve h]
  rfl

section
variable {s s1 : State} {left : List Byte} (h : s.nextAnswer = (.fail left, s1))
include h

theorem exec_bsAvailable_fail : exec .bsAvailable s = .next (State.onFail { s1 with pending := left } .available) := by
  have hexec : exec .bsAvailable s = execBsAvailable s := rfl
  rw [hexec, execBsAvailable, bsAvailable_fail h]

theorem exec_bsRead_fail (n : Nat) : exec (.bsRead n) s = .next (State.onFail { s1 with pending := left } .read) := by
  have hexec : exec (.bsRead n) s = execBsRead n s := rfl
  rw [hexec, execBsRead, bsRead_fail h]

theorem exec_bsDiscard_fail : exec .bsDiscard s = .next (State.onFail { s1 with pending := left } .discard) := by
  have hexec : exec .bsDiscard s = execBsDiscard s := rfl
  rw [hexec, execBsDiscard, bsDiscard_fail h]

end

theorem exec_resync (n : Nat) (s : State) : exec (.resync n) s = .next (resync n s) := rfl

/-- RESYNC(n) whose discard is served (R233). -/
theorem resync_serve {s s1 : State} {d : Nat} (n : Nat) (h : s.nextAnswer = (.serve d, s1)) :
    resync n s = { s1 with pending := [], reports := s.reports ++ [.resync n], result := .done } := by
  rw [resync, bsDiscard_serve h]
  obtain ⟨as, k, rfl⟩ := State.nextAnswer_state h
  rfl

theorem resync_fail {s s1 : State} {left : List Byte} (n : Nat) (h : s.nextAnswer = (.fail left, s1)) :
    resync n s = State.onFail { s1 with pending := left } .discard := by
  rw [resync, bsDiscard_fail h]

end Sys2Proof.Machine

namespace Sys2Proof
open Machine

/-- Settles O39: each call by its rule for a served draw. -/
theorem byteSourceCallsServe : Obligations.ByteSourceCallsServe :=
  fun _ _ _ h => ⟨exec_bsAvailable_serve h, ⟨.done, exec_bsDiscard_serve h⟩, fun n => exec_bsRead_serve n h⟩

/-- Settles O40: each call answers a failed draw with ON_FAIL of its own operation. -/
theorem byteSourceFailureIsFatal : Obligations.ByteSourceFailureIsFatal := by
  intro s s1 left h
  refine ⟨⟨.failed, ?_⟩, fun n => ⟨.failed, ?_⟩, ⟨.failed, ?_⟩⟩
  · rw [exec_bsAvailable_fail h, onFail_of_draw h]
  · rw [exec_bsRead_fail h, onFail_of_draw h]
  · rw [exec_bsDiscard_fail h, onFail_of_draw h]

/-- Settles O42: each operation is the one update and the reply. -/
theorem plainSynchronizerEffects : Obligations.PlainSynchronizerEffects := fun _ =>
  ⟨fun _ => ⟨.done, rfl⟩, fun _ => ⟨.rejected, rfl⟩, ⟨.done, rfl⟩, fun _ => ⟨.done, rfl⟩, fun _ => ⟨.failed, rfl⟩⟩

/-- Settles O43: by the draw of the discard. -/
theorem resyncDiscardsPending : Obligations.ResyncDiscardsPending := by
  intro s s1 n
  refine ⟨fun d h => ⟨.done, ?_⟩, fun left h => ⟨.failed, ?_⟩⟩
  · rw [exec_resync, resync_serve n h]
  · rw [exec_resync, resync_fail n h, onFail_of_draw h]

end Sys2Proof
end

section
/-! PROOF. FRAME_READ and the poll cycle (R232–R237, R243, R267), by the byte source's draws. -/

namespace Sys2Proof.Machine

/-! ### FRAME_READ (R235) -/

theorem exec_frameRead (s : State) : exec .frameRead s = .next (frameRead s) := rfl

/-- A read that serves the whole frame. -/
theorem frameRead_full {s s1 : State} {d : Nat} (h : s.nextAnswer = (.serve d, s1))
    (hk : readCount s.cfg.bsConforming d frameSize s.pending.length = frameSize) :
    frameRead s = validateFrame (State.memWrite { s1 with pending := s.pending.drop frameSize } 0 (s.pending.take frameSize)) := by
  have hle := readCount_le s.cfg.bsConforming d frameSize s.pending.length
  have hlen : ¬ (s.pending.take frameSize).length < frameSize := by
    rw [List.length_take]
    omega
  obtain ⟨as, n, rfl⟩ := State.nextAnswer_state h
  rw [frameRead, bsRead_serve h]
  dsimp only
  rw [hk, if_neg hlen]

/-- A short read (R237). -/
theorem frameRead_short {s s1 : State} {d : Nat} (h : s.nextAnswer = (.serve d, s1))
    (hk : readCount s.cfg.bsConforming d frameSize s.pending.length < frameSize) :
    let k := readCount s.cfg.bsConforming d frameSize s.pending.length
    frameRead s = { s1 with
      pending := s.pending.drop k, reports := s.reports ++ [.rejectShortRead k], result := .rejected } := by
  intro k
  have hle : k ≤ min frameSize s.pending.length := readCount_le s.cfg.bsConforming d frameSize s.pending.length
  have hlen : (s.pending.take k).length = k := by
    rw [List.length_take]
    omega
  obtain ⟨as, n, rfl⟩ := State.nextAnswer_state h
  rw [frameRead, bsRead_serve h]
  dsimp only
  rw [hlen, if_pos hk]
  rfl

theorem frameRead_fail {s s1 : State} {left : List Byte} (h : s.nextAnswer = (.fail left, s1)) :
    frameRead s = State.onFail { s1 with pending := left } .read := by
  rw [frameRead, bsRead_fail h]

/-- FRAME_BUF after the first 164 of some bytes are written to it. -/
theorem Memory.read_writeBytes_take (m : Memory) {bytes : List Byte} (hlen : frameSize ≤ bytes.length) (i : Nat) :
    (m.writeBytes 0 (bytes.take frameSize)).read i = if i < frameSize then bytes[i]? else m.read i := by
  have hfull : (bytes.take frameSize).length = frameSize := by rw [List.length_take, Nat.min_eq_left hlen]
  rw [Memory.read_writeFrame hfull]
  refine if_ctx_congr Iff.rfl (fun hi => ?_) (fun _ => rfl)
  have hi' : i < bytes.length := Nat.lt_of_lt_of_le hi hlen
  simp [byteOf, hi, hi']

/-! ### POLL_CYCLE (R232) -/

theorem exec_pollCycle {s : State} (hrun : s.lifecycle = .running) (hphase : s.phase = .poll) (hreq : s.cancelReq = false) :
    exec .pollCycle s = .next (pollCycle s) := if_pos (s.pollEnabled_iff.2 ⟨hrun, hphase, hreq⟩)

/-- The three branches of a served count. -/
theorem pollCycle_serve {s s1 : State} {d : Nat} (h : s.nextAnswer = (.serve d, s1)) :
    pollCycle s =
      if frameSize < s.pending.length then resync s.pending.length s1
      else if s.pending.length < frameSize then { s1 with result := .done }
      else frameRead s1 := by
  rw [pollCycle, bsAvailable_serve h]
  obtain ⟨as, n, rfl⟩ := State.nextAnswer_state h
  rfl

theorem pollCycle_fail {s s1 : State} {left : List Byte} (h : s.nextAnswer = (.fail left, s1)) :
    pollCycle s = State.onFail { s1 with pending := left } .available := by
  rw [pollCycle, bsAvailable_fail h]

/-- Exactly one frame is pending. -/
theorem exec_pollCycle_eq_frameRead {s s1 : State} {d : Nat} (h : s.nextAnswer = (.serve d, s1))
    (hrun : s.lifecycle = .running) (hphase : s.phase = .poll) (hreq : s.cancelReq = false) (hlen : s.pending.length = frameSize) :
    exec .pollCycle s = exec .frameRead s1 := by
  rw [exec_pollCycle hrun hphase hreq, pollCycle_serve h, if_neg hlen.not_gt, if_neg hlen.not_lt, exec_frameRead]

/-- A conforming source serves a pending frame whole, and so does one that draws a large enough count (R236). -/
theorem readCount_frameSize {conforming : Bool} {d : Nat} (hc : conforming = true ∨ frameSize ≤ d) :
    readCount conforming d frameSize frameSize = frameSize := by
  unfold readCount
  split_ifs with hconf
  · exact Nat.min_self _
  · rw [Nat.min_self, Nat.min_eq_right (hc.resolve_left hconf)]

/-- The read of the poll cycle, where exactly one frame is pending and both calls are served: PENDING is left empty, and the frame is
validated in FRAME_BUF. -/
theorem frameRead_of_frame {s s1 s2 : State} {a b : Nat} (h1 : s.nextAnswer = (.serve a, s1)) (h2 : s1.nextAnswer = (.serve b, s2))
    (hc : s.cfg.bsConforming = true ∨ frameSize ≤ b) (hlen : s.pending.length = frameSize) :
    frameRead s1 = validateFrame (State.memWrite { s2 with pending := [] } 0 s.pending) := by
  obtain ⟨as, n, rfl⟩ := State.nextAnswer_state h1
  have hk : readCount s.cfg.bsConforming b frameSize s.pending.length = frameSize := by rw [hlen, readCount_frameSize hc]
  rw [frameRead_full h2 hk]
  dsimp only
  rw [List.drop_of_length_le hlen.le, List.take_of_length_le hlen.le]

/-- The checksum's place, written apart from the layout's own function (R10). -/
theorem checksumOffset_eq_checksumPlace (lay : Layout) : lay.checksumOffset = checksumPlace lay := by
  cases lay <;> rfl

/-- The checksum of a frame's bytes as a number (R83). -/
theorem le16At_checksumOffset_toNat (lay : Layout) (rd : Nat → Byte) :
    (le16At rd lay.checksumOffset).toNat = (rd (checksumPlace lay)).toNat + 256 * (rd (checksumPlace lay + 1)).toNat := by
  rw [checksumOffset_eq_checksumPlace, le16At, joinBytes_toNat, Nat.add_comm]

end Sys2Proof.Machine

namespace Sys2Proof
open Machine

/-- Settles O44: by the number of bytes served, and by the failure. -/
theorem frameReadFillsBufferAndValidates : Obligations.FrameReadFillsBufferAndValidates := by
  intro s s1
  refine ⟨?_, fun left h => ⟨.failed, ?_⟩⟩
  · intro d h k
    refine ⟨fun hk => ?_, fun hk => ⟨.rejected, ?_⟩⟩
    · have hle : k ≤ min 164 s.pending.length := readCount_le s.cfg.bsConforming d frameSize s.pending.length
      have hlen : 164 ≤ s.pending.length := by omega
      have hread := Memory.read_writeBytes_take s.frameBuf hlen
      refine ⟨s.frameBuf.writeBytes 0 (s.pending.take frameSize), _, fun i hi => (hread i).trans (if_pos hi),
        fun i hi => (hread i).trans (if_neg (Nat.not_lt.2 hi)), rfl, ?_⟩
      rw [frameRead_full h hk]
      obtain ⟨as, n, rfl⟩ := State.nextAnswer_state h
      rfl
    · rw [exec_frameRead, frameRead_short h hk]
      rfl
  · rw [exec_frameRead, frameRead_fail h, onFail_of_draw h]

/-- Settles O45: the count selects the read, the read is whole, and the validator finds a legal header and the right checksum. -/
theorem pollCycleAcceptsGoodFrame : Obligations.PollCycleAcceptsGoodFrame := by
  intro s s1 s2 a b hrom hrun hphase hreq h1 h2 hserved hlen hb0 hb1 hb2 hb3 v hv
  have hpoll : exec .pollCycle s = exec .frameRead s1 := exec_pollCycle_eq_frameRead h1 hrun hphase hreq hlen
  have hrx : le16At (byteOf s.pending) s.cfg.layout.checksumOffset = v := by
    rw [← BitVec.toNat_inj, le16At_checksumOffset_toNat, hv]
  have hread := Memory.read_writeBytes_take s.frameBuf hlen.ge
  rw [List.take_of_length_le hlen.le] at hread
  refine ⟨s.frameBuf.writeBytes 0 s.pending, .done, fun i hi => (hread i).trans (if_pos hi),
    fun i hi => (hread i).trans (if_neg (Nat.not_lt.2 hi)), ?_, hpoll.symm⟩
  rw [hpoll, exec_frameRead, frameRead_of_frame h1 h2 hserved hlen]
  obtain ⟨as, n, rfl⟩ := State.nextAnswer_state_two h1 h2
  have hvalid := validateFrame_memWrite { s with pending := [], answers := as, drawCount := n } hlen hrom ⟨hb0, hb1, hb2, hb3⟩
  exact congrArg _ (hvalid.trans (if_pos hrx))

/-- Settles O46: by the draw of the count, and the count against 164. -/
theorem pollCycleWaitsAndResyncs : Obligations.PollCycleWaitsAndResyncs := by
  intro s s1 hrun hphase hreq
  have hpoll := exec_pollCycle hrun hphase hreq
  refine ⟨fun a h => ⟨fun hlt => ⟨.done, ?_⟩, fun heq => ?_, fun hgt => ?_⟩, fun left h => ⟨.failed, ?_⟩⟩
  · rw [hpoll, pollCycle_serve h, if_neg hlt.not_gt, if_pos hlt]
  · exact exec_pollCycle_eq_frameRead h hrun hphase hreq heq
  · have hresync : exec .pollCycle s = .next (resync s.pending.length s1) := by
      rw [hpoll, pollCycle_serve h, if_pos hgt]
    refine ⟨hresync, fun s2 => ?_⟩
    rw [hresync]
    obtain ⟨as, n, rfl⟩ := State.nextAnswer_state h
    refine ⟨fun b h2 => ⟨.done, ?_⟩, fun left h2 => ⟨.failed, ?_⟩⟩
    · rw [resync_serve _ h2]
    · rw [resync_fail _ h2, onFail_of_draw h2]
  · rw [hpoll, pollCycle_fail h, onFail_of_draw h]

end Sys2Proof
end

section
/-! PROOF. START, CANCEL and where the core's steps are enabled (R232, R239, R241, R242, R244, R292). -/

namespace Sys2Proof.Machine

theorem exec_start_unopened {s : State} (hlife : s.lifecycle = .unopened) (hlegal : s.cfg.Legal) (r : StartResult) :
    exec (.start r) s = .next (startRun r s) := (if_pos hlife).trans (if_pos hlegal)

theorem exec_start_badConfiguration {s : State} (hlife : s.lifecycle = .unopened) (hbad : ¬ s.cfg.Legal) (r : StartResult) :
    exec (.start r) s = .refused .badConfiguration := (if_pos hlife).trans (if_neg hbad)

theorem exec_start_notAccepted {s : State} (hlife : s.lifecycle ≠ .unopened) (r : StartResult) :
    exec (.start r) s = .next (s.reply .notAccepted) := if_neg hlife

theorem exec_cancel {s : State} (h : s.cancelEnabled = true) : exec .cancel s = .next (cancelRun s) := if_pos h

/-- CANCEL in RUNNING closes the source (R239, R242). -/
theorem cancelRun_running {s : State} (hrun : s.lifecycle = .running) :
    cancelRun s = { s with
      lifecycle := .stopped, cancelReq := false, srcOpen := false, reports := s.reports ++ [.stopped], result := .done } := by
  rw [cancelRun, if_pos hrun]
  rfl

/-- CANCEL outside RUNNING has no source to close (R242). -/
theorem cancelRun_not_running {s : State} (hrun : s.lifecycle ≠ .running) :
    cancelRun s = { s with
      lifecycle := .stopped, cancelReq := false, reports := s.reports ++ [.stopped], result := .done } := by
  rw [cancelRun, if_neg hrun]
  rfl

end Sys2Proof.Machine

namespace Sys2Proof
open Machine

/-- Settles O48: START in UNOPENED by its operand; SRC_OPEN is cleared already when it fails. -/
theorem startOpensOrFails : Obligations.StartOpensOrFails := by
  intro s hlife hclosed hlegal
  refine ⟨⟨.done, exec_start_unopened hlife hlegal .ok⟩, ⟨.failed, ?_⟩⟩
  have hsame : { s with srcOpen := false } = s := by rw [← hclosed]
  rw [exec_start_unopened hlife hlegal, startRun, hsame]
  rfl

/-- Settles O49: START's other two answers. -/
theorem startIsRefusedElsewhere : Obligations.StartIsRefusedElsewhere := fun _ x =>
  ⟨fun hlife => ⟨.notAccepted, exec_start_notAccepted hlife x⟩, fun hlife hbad => exec_start_badConfiguration hlife hbad x⟩

/-- Settles O50: CANCEL where it is enabled, by the lifecycle. -/
theorem cancelStopsTheRun : Obligations.CancelStopsTheRun := by
  intro s hreq
  refine ⟨fun hrun hphase => ⟨.done, ?_⟩, fun hlife => ⟨.done, ?_⟩⟩
  · rw [exec_cancel (s.cancelEnabled_iff.2 ⟨hreq, .inl ⟨hrun, hphase⟩⟩), cancelRun_running hrun]
  · have hrun : s.lifecycle ≠ .running := by simp [hlife]
    rw [exec_cancel (s.cancelEnabled_iff.2 ⟨hreq, .inr hlife⟩), cancelRun_not_running hrun]

/-- Settles O51: each core step tests its row of the enabling table. -/
theorem coreStepsStopWhereNotEnabled : Obligations.CoreStepsStopWhereNotEnabled := fun s =>
  ⟨fun h => if_neg (mt s.pollEnabled_iff.1 h), fun h => if_neg (mt s.decodeEnabled_iff.1 h),
    fun h => if_neg (mt s.cancelEnabled_iff.1 h)⟩

end Sys2Proof
end

section
/-! PROOF. One step, by the move it takes (R7, R244, R247): that it goes on (R292), and what it leaves once a run has ended (R246). -/

namespace Sys2Proof.Machine

/-- The table of R244. In UNOPENED, whose PHASE is POLL in every state a run reaches, the model does not look at PHASE. -/
def enablingTable : Lifecycle → Phase → Bool → Option Instr
  | .unopened, _, cancelReq => if cancelReq then some .cancel else none
  | .running, .poll, cancelReq => if cancelReq then some .cancel else some .pollCycle
  | .running, .decode, _ => some .decodeChannel
  | .stopped, _, _ => none
  | .failed, _, _ => none

/-- The model's three conditions, row by row of the table. -/
theorem State.enabledStep_eq_table (s : State) : s.enabledStep = enablingTable s.lifecycle s.phase s.cancelReq := by
  obtain ⟨cfg, frameBuf, crcAcc, phase, chIdx, lifecycle, store, pending, srcOpen, cancelReq⟩ := s
  cases lifecycle <;> cases phase <;> cases cancelReq <;> rfl

/-- The state after a move is the old one but for the environment's own fields. -/
theorem State.nextMove_state {s s1 : State} {m : Move} (h : s.nextMove = (m, s1)) :
    ∃ ms n, s1 = { s with schedule := ms, moveCount := n } := by
  obtain ⟨ms, n, e⟩ := s.nextMove_frame
  rw [h] at e
  exact ⟨ms, n, e⟩

/-- When the core has the move, the table decides. -/
theorem step_core {s s1 : State} (h : s.nextMove = (.core, s1)) :
    step s = (enablingTable s.lifecycle s.phase s.cancelReq).elim (.next s1) (fun i => exec i s1) := by
  rw [step_eq, h]
  obtain ⟨ms, n, rfl⟩ := State.nextMove_state h
  dsimp only [State.selectFor]
  rw [State.enabledStep_eq_table]
  cases enablingTable s.lifecycle s.phase s.cancelReq <;> rfl

/-- A core step where it is enabled has a next state. -/
theorem exec_of_enabledStep {s : State} {i : Instr} (h : s.enabledStep = some i) : ∃ t, exec i s = .next t := by
  obtain ⟨rfl, hi⟩ | ⟨rfl, hi⟩ | ⟨rfl, hi⟩ := State.enabledStep_cases h
  · exact ⟨_, exec_cancel hi⟩
  · exact ⟨pollCycle s, if_pos hi⟩
  · exact ⟨decodeChannel s, if_pos hi⟩

/-- START has a next state wherever the configuration is legal (R292). -/
theorem exec_start_of_legal {s : State} (hlegal : s.cfg.Legal) (r : StartResult) : ∃ t, exec (.start r) s = .next t := by
  by_cases hlife : s.lifecycle = .unopened
  · exact ⟨_, exec_start_unopened hlife hlegal r⟩
  · exact ⟨_, exec_start_notAccepted hlife r⟩

/-- In STOPPED and FAILED no core step is enabled and START is not accepted (R246, R266): of the block, only arrivals and the cancel
request are left. -/
theorem StepEffect.of_ended {s t : State} {m : Move} (he : StepEffect s m t) (hend : s.lifecycle = .stopped ∨ s.lifecycle = .failed)
    (hm : m ≠ .reset) : ∃ bs req r, t = { s with pending := s.pending ++ bs, cancelReq := req, result := r } := by
  have hrun : s.lifecycle ≠ .running := by rcases hend with h | h <;> simp [h]
  have hunopened : s.lifecycle ≠ .unopened := by rcases hend with h | h <;> simp [h]
  have hnone (req : Bool) (r : Result) :
      { s with cancelReq := req, result := r }
        = { s with pending := s.pending ++ [], cancelReq := req, result := r } := by rw [List.append_nil]
  cases he with
  | cancel h =>
    obtain ⟨-, ⟨hl, -⟩ | hl⟩ := s.cancelEnabled_iff.1 h
    · exact absurd hl hrun
    · exact absurd hl hunopened
  | poll h => exact absurd (s.pollEnabled_iff.1 h).1 hrun
  | decode h => exact absurd (s.decodeEnabled_iff.1 h).1 hrun
  | start _ hl _ => exact absurd hl hunopened
  | reset => exact absurd rfl hm
  | arrive bytes => exact ⟨bytes, _, _, rfl⟩
  | idle _ | startNotAccepted _ _ | requestCancel | storeRead => exact ⟨[], _, _, hnone _ _⟩

end Sys2Proof.Machine

namespace Sys2Proof
open Machine

/-- Settles O6: each row of the table. -/
theorem stepFollowsEnablingTable : Obligations.StepFollowsEnablingTable := by
  intro s s1 h
  rw [step_core h]
  refine ⟨fun hl _ hc => ?_, fun hl _ hc => ?_, fun hl hp hc => ?_, fun hl hp hc => ?_, fun hl hp => ?_, fun hl => ?_,
    fun hl => ?_⟩
  · rw [hl, hc]; rfl
  · rw [hl, hc]; rfl
  · rw [hl, hp, hc]; rfl
  · rw [hl, hp, hc]; rfl
  · rw [hl, hp]; rfl
  · rw [hl]; rfl
  · rw [hl]; rfl

/-- Settles O5: the poll cycle that is enabled writes the pending bytes to FRAME_BUF, and those are the encoding of the frame they
decode to. -/
theorem stepRunsDecodedFrame : Obligations.StepRunsDecodedFrame := by
  intro s s1 s2 s3 a b i hmove h1 h2 hrun hphase hreq hserved hdec
  obtain ⟨f, rfl⟩ : ∃ f, i = .telemetryFrame f := by
    obtain ⟨-, -, hi⟩ := decode_eq_ok_iff.1 hdec
    exact ⟨_, hi⟩
  obtain ⟨hlen, -⟩ := decode_eq_ok_iff.1 hdec
  have hbytes : encodeFrame s.cfg.headMarker s.cfg.layout f = s.pending := Option.some.inj (encodeDecodeRoundTrip _ _ _ _ hdec)
  have hstep : step s = exec .pollCycle s1 := by
    rw [step_core hmove, hrun, hphase, hreq]
    rfl
  obtain ⟨ms, k, rfl⟩ := State.nextMove_state hmove
  have hpoll := exec_pollCycle_eq_frameRead h1 hrun hphase hreq hlen
  rw [hstep, hpoll, exec_frameRead, frameRead_of_frame h1 h2 hserved hlen, ← hbytes]
  obtain ⟨as, n, rfl⟩ := State.nextAnswer_state_two h1 h2
  rfl

/-- Settles O7: each move selects its own operation. -/
theorem stepRunsEnvironmentMoves : Obligations.StepRunsEnvironmentMoves := by
  intro s s1
  refine ⟨fun r h => ?_, fun bs h => ?_, fun h => ?_, fun h => ?_⟩ <;> rw [step_eq, h] <;> rfl

/-- Settles O55: by the move; only a core step and START can stop, and neither does here. -/
theorem everyStepGoesOn : Obligations.EveryStepGoesOn := by
  intro s hlegal
  rcases hmove : s.nextMove with ⟨m, s1⟩
  have hlegal1 : s1.cfg.Legal := by
    obtain ⟨ms, n, rfl⟩ := State.nextMove_state hmove
    exact hlegal
  rw [step_eq, hmove]
  cases m with
  | core =>
    rw [State.selectFor]
    cases he : s1.enabledStep with
    | none => exact ⟨_, rfl⟩
    | some i => exact exec_of_enabledStep he
  | start r => exact exec_start_of_legal hlegal1 r
  | arrive bytes => exact ⟨_, rfl⟩
  | requestCancel => exact ⟨_, rfl⟩
  | storeRead => exact ⟨_, rfl⟩
  | reset => exact ⟨_, rfl⟩

/-- Settles O58: the step changes the environment's fields, PENDING by arrivals, CANCEL_REQ and the result. -/
theorem endedRunsStayEnded : Obligations.EndedRunsStayEnded := by
  intro s t hend hm h
  obtain ⟨ms, n, he⟩ := step_effect h
  obtain ⟨bs, req, r, rfl⟩ := he.of_ended hend hm
  exact ⟨rfl, rfl, rfl, rfl, rfl, rfl, rfl, rfl, bs, rfl⟩

end Sys2Proof
end

section
/-! PROOF. The one outcome of a poll cycle (R232, R267). -/

namespace Sys2Proof.Machine

/-- POLL_CYCLE goes on only where it is enabled, and then as `pollCycle` (R232, R244). -/
theorem eq_pollCycle_of_exec {s t : State} (h : exec .pollCycle s = .next t) : t = pollCycle s := by
  rw [exec, execPollCycle] at h
  split_ifs at h
  exact (Host.Outcome.next.inj h).symm

end Sys2Proof.Machine

namespace Sys2Proof
open Machine

/-- Settles O47: by the outcomes of a poll cycle, and those of the validator where a whole frame was read. -/
theorem pollCycleHasOneOutcome : Obligations.PollCycleHasOneOutcome := by
  intro s t h
  rw [eq_pollCycle_of_exec h]
  obtain ⟨as, n, p, ⟨op, hfail⟩ | ⟨k, hresync⟩ | hwait | ⟨k, hshort⟩ | ⟨bs, -, hread⟩⟩ := pollCycle_cases s
  · rw [hfail]
    exact ⟨rfl, rfl, rfl, rfl, .inr ⟨_, rfl, .inr (.inl ⟨⟨op, rfl⟩, rfl, rfl⟩)⟩⟩
  · rw [hresync]
    exact ⟨rfl, rfl, rfl, rfl, .inr ⟨_, rfl, .inr (.inr ⟨.inl ⟨k, rfl⟩, rfl, rfl⟩)⟩⟩
  · rw [hwait]
    exact ⟨rfl, rfl, rfl, rfl, .inl ⟨rfl, rfl, rfl⟩⟩
  · rw [hshort]
    exact ⟨rfl, rfl, rfl, rfl, .inr ⟨_, rfl, .inr (.inr ⟨.inr (.inr (.inr ⟨k, rfl⟩)), rfl, rfl⟩)⟩⟩
  · rw [hread]
    obtain ⟨v, e, hreject, he⟩ | ⟨v, haccept⟩ :=
      validateFrame_cases (State.memWrite { s with pending := p, answers := as, drawCount := n } 0 bs)
    · rw [hreject]
      have hkind : (∃ h l v c, e = .rejectHeader h l v c) ∨ (∃ x y, e = .rejectChecksum x y) ∨ ∃ k, e = .rejectShortRead k :=
        he.imp_right .inl
      exact ⟨rfl, rfl, rfl, rfl, .inr ⟨e, rfl, .inr (.inr ⟨.inr hkind, rfl, rfl⟩)⟩⟩
    · rw [haccept]
      exact ⟨rfl, rfl, rfl, rfl, .inr ⟨_, rfl, .inl ⟨rfl, rfl, rfl, rfl⟩⟩⟩

end Sys2Proof
end

section
/-! PROOF. The Host's reset (R36, R290), and the configuration, which no step changes (R9, R301). -/

namespace Sys2Proof.Machine

/-- The Host's move reset, which no operation of the table runs (R290). -/
theorem step_reset {s s1 : State} (h : s.nextMove = (.reset, s1)) : step s = .next s1.hostReset := by
  rw [step_eq, h]
  rfl

/-! The operations a step runs keep the configuration. -/

@[simp] theorem validateFrame_cfg (s : State) : (validateFrame s).cfg = s.cfg := by
  obtain ⟨v, e, h, -⟩ | ⟨v, h⟩ := validateFrame_cases s <;> rw [h]

@[simp] theorem pollCycle_cfg (s : State) : (pollCycle s).cfg = s.cfg := by
  obtain ⟨as, n, p, ⟨op, hfail⟩ | ⟨k, hresync⟩ | hwait | ⟨k, hshort⟩ | ⟨bs, -, hread⟩⟩ := pollCycle_cases s
  · rw [hfail, State.onFail_cfg]
  · rw [hresync, State.reply_cfg, State.emit_cfg]
  · rw [hwait, State.reply_cfg]
  · rw [hshort, State.reject_cfg]
  · rw [hread, validateFrame_cfg, State.memWrite_cfg]

@[simp] theorem decodeChannel_cfg (s : State) : (decodeChannel s).cfg = s.cfg := by
  obtain h | ⟨v, c, t, r, h⟩ := decodeChannel_cases s <;> rw [h]

@[simp] theorem startRun_cfg (r : StartResult) (s : State) : (startRun r s).cfg = s.cfg := by
  cases r with
  | ok => rfl
  | fail => rfl

/-- No way a step goes changes the configuration or a ROM, not even reset (R301). -/
theorem StepEffect.cfg_eq {s t : State} {m : Move} (he : StepEffect s m t) : t.cfg = s.cfg := by
  cases he with
  | cancel _ => exact cancelRun_cfg s
  | poll _ => exact pollCycle_cfg s
  | decode _ => exact decodeChannel_cfg s
  | start r _ _ => exact startRun_cfg r s
  | reset => exact State.hostReset_cfg s
  | idle _ | startNotAccepted _ _ | arrive _ | requestCancel | storeRead => rfl

end Sys2Proof.Machine

namespace Sys2Proof
open Machine

/-- Settles O56: taking a move touches the environment's fields alone, and each way a step goes keeps the configuration. -/
theorem noStepChangesConfiguration : Obligations.NoStepChangesConfiguration := by
  intro s t h
  obtain ⟨ms, n, he⟩ := step_effect h
  exact he.cfg_eq

/-- Settles O8: the next state is the Host's reset of the state whose move was taken, which has the configuration of `s`. -/
theorem resetMoveClearsTheBlock : Obligations.ResetMoveClearsTheBlock := by
  intro s s1 h
  have hcfg : s1.hostReset.cfg = s.cfg := by
    obtain ⟨ms, n, rfl⟩ := State.nextMove_state h
    exact State.hostReset_cfg _
  exact ⟨s1.hostReset, step_reset h, hcfg, rfl, rfl, rfl, rfl, rfl, rfl, rfl⟩

end Sys2Proof
end
